-- ==== Sys2Proof/Word.lean ====
section
/-! DEFINITION. The two machine words of the SM83: the byte and the 16-bit word (R7, R17). -/

namespace Sys2Proof

/-- `u8` of R17: a register, a byte of memory, an opcode, an immediate. -/
abbrev Byte := BitVec 8

/-- `u16` of R17: SP, PC, a register pair, an address. Addition and subtraction wrap modulo 65536
(R17, R31, R32), which is `BitVec`'s own arithmetic. -/
abbrev Word := BitVec 16

end Sys2Proof
end

