-- ==== Sys2Proof/Machine/Bits.lean ====
section
/-! DEFINITION. The bit-field, extension and byte-order helpers of R16 and R17, used by the decoder and
by the machine. -/

namespace Sys2Proof

/-- `hi(w) = w[15:8]` (R17). -/
def hiByte (w : Word) : Byte := w.extractLsb' 8 8

/-- `lo(w) = w[7:0]` (R17). -/
def loByte (w : Word) : Byte := w.extractLsb' 0 8

/-- `hi:lo = hi * 256 + lo` (R17). -/
def joinBytes (h l : Byte) : Word := h ++ l

/-- `sext_16(v)` (R17): bit 7 copied into bits 15 to 8. -/
def sext16 (v : Byte) : Word := v.signExtend 16

/-- `zext_16(v)` (R17). -/
def zext16 (v : Byte) : Word := v.setWidth 16

/-- A `bool` in {0, 1} as a byte, for the pseudocode that shifts or adds one. -/
def boolByte (b : Bool) : Byte := if b then 1#8 else 0#8

/-- `v[i]` (R16), bit i of a byte. -/
def bitAt (v : Byte) (i : Nat) : Bool := v.getLsbD i

/-- Field `x = op[7:6]` (R71). -/
def xField (op : Byte) : Fin 4 := Fin.ofNat 4 (op.toNat / 64)

/-- Field `y = op[5:3]` (R71). -/
def yField (op : Byte) : Fin 8 := Fin.ofNat 8 (op.toNat / 8)

/-- Field `z = op[2:0]` (R71). -/
def zField (op : Byte) : Fin 8 := Fin.ofNat 8 op.toNat

end Sys2Proof
end

