-- ==== Sys2Proof/Config.lean ====
section
/-! DEFINITION. The parameters of the model (R8 to R13): what an implementation fixes. They stand in
the state as one field that no step writes, so that a claim about every state holds for every choice
of them; `Config.standard` is the choice the reset state carries. The SM83 spec leaves no result, flag
or register undefined after an instruction, so there is no free value here. -/

namespace Sys2Proof

/-- The five maskable interrupt lines, highest priority first (R8, R181). -/
inductive Line where
  | vblank
  | lcdStat
  | timer
  | serial
  | joypad
  deriving DecidableEq, Repr

/-- R13: what opcode 0x10 (STOP) does. -/
inductive StopMode where
  | haltLike
  | fault
  deriving DecidableEq, Repr

/-- R10: which initial register file a reset gives. -/
inductive ResetProfile where
  | zero
  | postBoot
  deriving DecidableEq, Repr

/-- The parameters R9, R10, R12 and R13 give the model. `HALT_TICK_CYCLES` (R11) is no parameter. -/
structure Config where
  /-- `IE_ADDR` (R9): where the interrupt-enable register stands on the bus. -/
  ieAddr : Word
  /-- `IF_ADDR` (R9): where the interrupt-flag register stands on the bus. -/
  ifAddr : Word
  /-- `RESET_PROFILE` (R10). -/
  resetProfile : ResetProfile
  /-- `INT_DISPATCH_CYCLES` (R12). -/
  intDispatchCycles : Nat
  /-- `STOP_MODE` (R13). -/
  stopMode : StopMode
  deriving DecidableEq, Repr

/-- The defaults of R9, R12 and R13. For `RESET_PROFILE` R10 names no default: `zero` is a
DESIGN CHOICE (assumption 2). -/
def Config.standard : Config where
  ieAddr := 0xFFFF#16
  ifAddr := 0xFF0F#16
  resetProfile := .zero
  intDispatchCycles := 20
  stopMode := .haltLike

/-- `HALT_TICK_CYCLES` (R11), fixed by the source. -/
def haltTickCycles : Nat := 4

/-- What a byte of the bus's memory that nothing has written reads as. DESIGN CHOICE (assumption 1):
the spec gives no memory contents at reset; 0x00 is what section 0 of the test vectors starts from. -/
def unlistedByte : Byte := 0x00#8

end Sys2Proof
end

