-- ==== Sys2Proof/Machine/State.lean ====
section
/-! DEFINITION. The state of the machine, as plain data: the core's registers (R25 to R43), the bus
behind its one port (R48, R14), the parameters (R9 to R13), the environment's pending actions (R61),
and what the last step put out (R173, R204). -/

namespace Sys2Proof.Machine

/-- The one synchronous exception of the core (R179, R180). `raiseUndefined` records it in
`State.fault`; it is an exception the machine TAKES (a next state), after which the core is stuck
until a reset, so no step ends in `Host.Outcome.fault`. -/
inductive Fault where
  /-- Raised by the undefined opcodes of R89 and, under `STOP_MODE = Fault`, by STOP (R170). Safe:
  the core stops as R180 says. `prefixed` is kept as R43 has it; no run sets it (93, row 2). -/
  | undefinedOpcode (opcode : Byte) (prefixed : Bool)
  deriving DecidableEq, Repr

/-- Why the model would give no meaning. -/
inductive Refusal where
  /-- Raised only by a refused arm of `exec`; there is none. Safe: the run stops. -/
  | notModelled (mnemonic : String)
  deriving DecidableEq, Repr

/-- The four flags of F (R34). They are the whole storage of F: its bits 3 to 0 hold nothing and read
as 0 (R35). -/
structure Flags where
  z : Bool
  n : Bool
  h : Bool
  c : Bool
  deriving DecidableEq, Repr

/-- One transaction of the bus master port (R48). -/
inductive BusOp where
  | read (addr : Word) (value : Byte)
  | write (addr : Word) (value : Byte)
  deriving DecidableEq, Repr

/-- What the outside world can do between two steps (R61, R173, R182). -/
inductive EnvAction where
  /-- Another agent stores a byte on the bus; no interrupt request (R61, T61-05). -/
  | busWrite (addr : Word) (value : Byte)
  /-- A peripheral sets the line's IF bit and raises `irq_request(line)` (R173, R182). -/
  | irqRequest (line : Line)
  /-- The reset input of the core (R173, R196, R197). -/
  | reset
  deriving DecidableEq, Repr

/-- What the step port has returned (R173, R204). -/
inductive StepResult where
  /-- No step has returned since reset. -/
  | idle
  /-- `Ok(cycles)`. -/
  | ok (cycles : Nat)
  /-- `Err(UndefinedOpcode(opcode, prefixed))`. -/
  | err (fault : Fault)
  deriving DecidableEq, Repr

/-- The bytes behind the bus: (address, byte) pairs, addresses strictly rising, none equal to what an
unlisted address reads as. -/
abbrev Memory := List Host.Cell

/-- The canonical form of `Memory`, over the 64 KiB of R49: equal memories are equal lists. -/
abbrev Memory.wf (m : Memory) : Prop :=
  m.Pairwise (fun x y => x.1 < y.1) ∧ ∀ x ∈ m, x.1 < 65536 ∧ x.2 ≠ unlistedByte

structure State where
  /-- The accumulator (R25, R28). -/
  a : Byte
  b : Byte
  c : Byte
  d : Byte
  e : Byte
  h : Byte
  l : Byte
  /-- F (R34, R35). -/
  flags : Flags
  /-- The stack pointer (R31). -/
  sp : Word
  /-- The program counter (R32). -/
  pc : Word
  /-- Interrupt master enable (R41). -/
  ime : Bool
  /-- The halted mode (R42). -/
  halted : Bool
  /-- The sticky fault (R43). -/
  fault : Option Fault
  /-- The plain RAM behind the bus (R67), IE and IF among its bytes (R44, R45). -/
  mem : Memory
  /-- The bus as an oracle for reads (R14, R50): its answers to the next reads, oldest first. When the
  list is empty the RAM answers. MODEL'S OWN field (assumption 3). -/
  answers : List Byte
  /-- What the environment does before each coming step, one list a step (R61). MODEL'S OWN field
  (assumption 4). -/
  inputs : List (List EnvAction)
  /-- The bus transactions of the latest step, oldest first (R58). MODEL'S OWN field (assumption 5). -/
  trace : List BusOp
  /-- What the latest step returned (R173). MODEL'S OWN field (assumption 5). -/
  result : StepResult
  /-- The parameters (R9 to R13); no step writes them. -/
  cfg : Config
  deriving DecidableEq, Repr

/-- The state right after reset under given parameters: R196 for the register file, R197 for IME,
`halted` and `fault`, R198 for the entry point; memory with nothing listed, no pending answers or
inputs, nothing put out. -/
def State.resetWith (cfg : Config) : State :=
  match cfg.resetProfile with
  | .zero =>
    { a := 0x00#8, b := 0x00#8, c := 0x00#8, d := 0x00#8, e := 0x00#8, h := 0x00#8, l := 0x00#8
      flags := ⟨false, false, false, false⟩
      sp := 0x0000#16, pc := 0x0000#16, ime := true, halted := false, fault := none
      mem := [], answers := [], inputs := [], trace := [], result := .idle, cfg := cfg }
  | .postBoot =>
    { a := 0x01#8, b := 0x00#8, c := 0x13#8, d := 0x00#8, e := 0xD8#8, h := 0x01#8, l := 0x4D#8
      flags := ⟨true, false, true, true⟩
      sp := 0xFFFE#16, pc := 0x0100#16, ime := true, halted := false, fault := none
      mem := [], answers := [], inputs := [], trace := [], result := .idle, cfg := cfg }

/-- The machine right after reset, under the default parameters. -/
def State.reset : State := State.resetWith Config.standard

/-- What a meaning answers. -/
abbrev Result := Host.Outcome State Fault Refusal

end Sys2Proof.Machine
end

