-- ==== Sys2Proof/Machine/Flags.lean ====
section
/-! DEFINITION. F as a byte, and every result and flag computation of the spec (R117 to R133, R136 to
R151), each a function of its operands. Sums and differences are taken on unbounded integers and then
narrowed (R17, R115). -/

namespace Sys2Proof.Machine

/-- `F = F.Z*0x80 + F.N*0x40 + F.H*0x20 + F.C*0x10` (R34). -/
def Flags.toByte (f : Flags) : Byte :=
  boolByte f.z <<< 7 ||| boolByte f.n <<< 6 ||| boolByte f.h <<< 5 ||| boolByte f.c <<< 4

/-- F written as a whole byte: `byte & 0xF0` (R35, R114). -/
def Flags.ofByte (v : Byte) : Flags :=
  { z := bitAt v 7, n := bitAt v 6, h := bitAt v 5, c := bitAt v 4 }

/-- The low nibble of a byte as a number, `v & 0xF`. -/
def lowNibble (v : Byte) : Nat := (v &&& 0x0F#8).toNat

/-! ### 8-bit addition and subtraction (R117 to R121) -/

/-- `s = a + v + c` with flags `Z 0 H C` (R117 with `c = 0`, R118). -/
def add8 (a v : Byte) (cin : Bool) : Byte × Flags :=
  let s := a.toNat + v.toNat + cin.toNat
  let r := BitVec.ofNat 8 s
  (r, { z := r == 0#8, n := false
        h := decide (lowNibble a + lowNibble v + cin.toNat > 0xF)
        c := decide (s > 0xFF) })

/-- `d = a - v - c` with flags `Z 1 H C` (R119 and R121 with `c = 0`, R120). -/
def sub8 (a v : Byte) (cin : Bool) : Byte × Flags :=
  let d : Int := (a.toNat : Int) - v.toNat - cin.toNat
  let r := BitVec.ofInt 8 d
  (r, { z := r == 0#8, n := true
        h := decide (lowNibble a < lowNibble v + cin.toNat)
        c := decide (a.toNat < v.toNat + cin.toNat) })

/-! ### Logic (R122 to R124) -/

/-- AND, flags `Z 0 1 0` (R122). -/
def and8 (a v : Byte) : Byte × Flags :=
  let r := a &&& v
  (r, { z := r == 0#8, n := false, h := true, c := false })

/-- XOR, flags `Z 0 0 0` (R123). -/
def xor8 (a v : Byte) : Byte × Flags :=
  let r := a ^^^ v
  (r, { z := r == 0#8, n := false, h := false, c := false })

/-- OR, flags `Z 0 0 0` (R124). -/
def or8 (a v : Byte) : Byte × Flags :=
  let r := a ||| v
  (r, { z := r == 0#8, n := false, h := false, c := false })

/-- The eight ALU operations of R77 on A and `v`: A's new value and the flags. CP leaves A (R121). -/
def aluResult (op : AluOp) (a v : Byte) (f : Flags) : Byte × Flags :=
  match op with
  | .add => add8 a v false
  | .adc => add8 a v f.c
  | .sub => sub8 a v false
  | .sbc => sub8 a v f.c
  | .and => and8 a v
  | .xor => xor8 a v
  | .or => or8 a v
  | .cp => (a, (sub8 a v false).2)

/-! ### Increment and decrement (R125 to R128) -/

/-- `o + 1` with flags `Z 0 H -` (R125, R126). -/
def inc8 (o : Byte) (f : Flags) : Byte × Flags :=
  let r := BitVec.ofNat 8 (o.toNat + 1)
  (r, { f with z := r == 0#8, n := false, h := lowNibble o == 0xF })

/-- `o - 1` with flags `Z 1 H -` (R127, R128). -/
def dec8 (o : Byte) (f : Flags) : Byte × Flags :=
  let r := BitVec.ofInt 8 ((o.toNat : Int) - 1)
  (r, { f with z := r == 0#8, n := true, h := lowNibble o == 0x0 })

/-! ### Decimal adjust (R129) -/

/-- Whether DAA after an addition corrects the high nibble: `F.C = 1 or a > 0x99` (R129). -/
def daaHigh (a : Byte) (f : Flags) : Bool := f.c || decide (a.toNat > 0x99)

/-- Whether DAA after an addition corrects the low nibble: `F.H = 1 or (a & 0x0F) > 0x09` (R129). -/
def daaLow (a : Byte) (f : Flags) : Bool := f.h || decide (lowNibble a > 0x09)

/-- The correction of R129 from its two conditions. -/
def daaCorrection (high low : Bool) : Byte :=
  (if high then 0x60#8 else 0x00#8) ||| (if low then 0x06#8 else 0x00#8)

/-- DAA, flags `Z - 0 C` (R129). -/
def daa8 (a : Byte) (f : Flags) : Byte × Flags :=
  if f.n then
    let r := BitVec.ofInt 8 ((a.toNat : Int) - (daaCorrection f.c f.h).toNat)
    (r, { f with z := r == 0#8, h := false })
  else
    let r := BitVec.ofNat 8 (a.toNat + (daaCorrection (daaHigh a f) (daaLow a f)).toNat)
    (r, { f with z := r == 0#8, h := false, c := daaHigh a f })

/-! ### 16-bit arithmetic (R133, R136, R137) -/

/-- `h + v` with flags `- 0 H C` from bits 11 and 15 (R133). -/
def add16 (h v : Word) (f : Flags) : Word × Flags :=
  let s := h.toNat + v.toNat
  (BitVec.ofNat 16 s,
    { f with n := false
             h := decide ((h &&& 0x0FFF#16).toNat + (v &&& 0x0FFF#16).toNat > 0x0FFF)
             c := decide (s > 0xFFFF) })

/-- `sp + sext_16(e)` with flags `0 0 H C` from the unsigned addition of the low bytes (R136, R137). -/
def addDisplacement (sp : Word) (e : Byte) : Word × Flags :=
  (sp + sext16 e,
    { z := false, n := false
      h := decide ((sp &&& 0x000F#16).toNat + lowNibble e > 0x0F)
      c := decide ((sp &&& 0x00FF#16).toNat + e.toNat > 0xFF) })

/-! ### Rotates, shifts and the nibble swap (R138 to R150) -/

/-- The result and the bit that leaves into C, of one rotate or shift on `v` with the incoming carry
(R143 to R150; RLCA, RLA, RRCA and RRA use the first four, R138 to R141). SWAP clears C (R149). -/
def rotResult (op : RotOp) (v : Byte) (cin : Bool) : Byte × Bool :=
  match op with
  | .rlc => (v <<< 1 ||| boolByte (bitAt v 7), bitAt v 7)
  | .rrc => (v >>> 1 ||| boolByte (bitAt v 0) <<< 7, bitAt v 0)
  | .rl => (v <<< 1 ||| boolByte cin, bitAt v 7)
  | .rr => (v >>> 1 ||| boolByte cin <<< 7, bitAt v 0)
  | .sla => (v <<< 1, bitAt v 7)
  | .sra => (v >>> 1 ||| (v &&& 0x80#8), bitAt v 0)
  | .swap => ((v &&& 0x0F#8) <<< 4 ||| v >>> 4, false)
  | .srl => (v >>> 1, bitAt v 0)

/-- The flags of a CB-prefixed rotate or shift: `Z 0 0 C`, Z from the result (R143 to R150). -/
def rotFlags (r : Byte × Bool) : Flags := { z := r.1 == 0#8, n := false, h := false, c := r.2 }

/-- The flags of an accumulator rotate: `0 0 0 C`, Z cleared whatever the result (R138 to R141). -/
def accRotFlags (r : Byte × Bool) : Flags := { z := false, n := false, h := false, c := r.2 }

/-! ### Single bits (R151 to R153) -/

/-- The flags of BIT: `Z 0 1 -`, Z the complement of the tested bit (R151). -/
def bitFlags (v : Byte) (b : Fin 8) (f : Flags) : Flags :=
  { f with z := !bitAt v b.val, n := false, h := true }

/-- `v & ~(1 << b)` (R152). -/
def resBit (v : Byte) (b : Fin 8) : Byte := v &&& ~~~ (1#8 <<< b.val)

/-- `v | (1 << b)` (R153). -/
def setBit (v : Byte) (b : Fin 8) : Byte := v ||| 1#8 <<< b.val

end Sys2Proof.Machine
end

