-- ==== Sys2Proof/Machine/Ops.lean ====
section
/-! DEFINITION. The named operations over memory, the bus, the stack and the program counter, taking
the exception of the core, dispatching an interrupt and returning from one, and what the environment
does between steps. Each operation that touches the bus records its transaction (R57, R58). -/

namespace Sys2Proof.Machine

/-! ### The bytes behind the bus (R67) -/

/-- The byte at `a`. -/
def Memory.read (m : Memory) (a : Word) : Byte :=
  match m with
  | [] => unlistedByte
  | (k, v) :: rest =>
    if a.toNat = k then v else if a.toNat < k then unlistedByte else Memory.read rest a

/-- Store `v` at `a`, keeping the canonical form. -/
def Memory.write (m : Memory) (a : Word) (v : Byte) : Memory :=
  match m with
  | [] => if v = unlistedByte then [] else [(a.toNat, v)]
  | (k, w) :: rest =>
    if a.toNat = k then
      if v = unlistedByte then rest else (k, v) :: rest
    else if a.toNat < k then
      if v = unlistedByte then (k, w) :: rest else (a.toNat, v) :: (k, w) :: rest
    else (k, w) :: Memory.write rest a v

/-! ### The bus master port (R48, R19) -/

/-- What the bus answers to a read of `a` now: its next scripted answer (R14, R50), or, with none
left, the byte of the plain RAM (R67). -/
def State.busAnswer (s : State) (a : Word) : Byte :=
  match s.answers with
  | [] => s.mem.read a
  | v :: _ => v

/-- The state after the read transaction of `a`. -/
def State.afterRead (s : State) (a : Word) : State :=
  { s with answers := s.answers.tail, trace := s.trace ++ [.read a (s.busAnswer a)] }

/-- `MemRead(a, 1)` (R19): one read transaction. -/
def State.busRead (s : State) (a : Word) : Byte × State := (s.busAnswer a, s.afterRead a)

/-- `MemWrite(a, 1, v)` (R19): one write transaction. -/
def State.busWrite (s : State) (a : Word) (v : Byte) : State :=
  { s with mem := s.mem.write a v, trace := s.trace ++ [.write a v] }

/-- `MemWrite(a, 2, w)` (R19, R52): the low byte at `a`, then the high byte at `a + 1`. -/
def State.busWrite16 (s : State) (a w : Word) : State :=
  (s.busWrite a (loByte w)).busWrite (a + 1#16) (hiByte w)

/-! ### The end of an instruction (R20, R33, R204) -/

/-- `PC <- pc0 + len` and the step's cycle count. -/
def State.finish (s : State) (len cycles : Nat) : State :=
  { s with pc := s.pc + BitVec.ofNat 16 len, result := .ok cycles }

/-- `PC <- target` and the step's cycle count. -/
def State.jumpTo (s : State) (target : Word) (cycles : Nat) : State :=
  { s with pc := target, result := .ok cycles }

/-! ### The stack (R155) -/

/-- `push16(w)`: the high byte at `SP - 1`, then the low byte at `SP - 2` (R113, R155). -/
def State.push16 (s : State) (w : Word) : State :=
  let s1 := { s with sp := s.sp - 1#16 }
  let s2 := s1.busWrite s1.sp (hiByte w)
  let s3 := { s2 with sp := s2.sp - 1#16 }
  s3.busWrite s3.sp (loByte w)

/-- `pop16()`: the low byte at `SP`, then the high byte at `SP + 1` (R114, R155). -/
def State.pop16 (s : State) : Word × State :=
  let r1 := s.busRead s.sp
  let s1 := { r1.2 with sp := r1.2.sp + 1#16 }
  let r2 := s1.busRead s1.sp
  let s2 := { r2.2 with sp := r2.2.sp + 1#16 }
  (joinBytes r2.1 r1.1, s2)

/-! ### The synchronous exception (R180) -/

/-- `raise UndefinedOpcode(opcode, prefixed)` (R20, R180): the fault is recorded and returned, and
nothing else changes; PC still holds the opcode's address. -/
def State.raiseUndefined (s : State) (opcode : Byte) (prefixed : Bool) : State :=
  { s with
    fault := some (.undefinedOpcode opcode prefixed)
    result := .err (.undefinedOpcode opcode prefixed) }

/-! ### Interrupts (R181 to R188) -/

/-- The line's bit position in IE and IF (R8, R44, R45). -/
def lineBit : Line → Nat
  | .vblank => 0
  | .lcdStat => 1
  | .timer => 2
  | .serial => 3
  | .joypad => 4

/-- The line's vector, `0x40 + 8k` (R181). -/
def lineVector (line : Line) : Word := 0x0040#16 + BitVec.ofNat 16 (8 * lineBit line)

/-- A byte with only the line's bit set, `1 << k`. -/
def lineMask (line : Line) : Byte := 1#8 <<< lineBit line

/-- The first line, in priority order, whose bit of `pend` is set (R181, R183, R186). -/
def firstPending (pend : Byte) : Option Line :=
  [Line.vblank, .lcdStat, .timer, .serial, .joypad].find? (fun k => bitAt pend (lineBit k))

/-- Add to the cycle count the step will return (R176, R204). -/
def StepResult.addCycles (r : StepResult) (n : Nat) : StepResult :=
  match r with
  | .idle => .idle
  | .ok cycles => .ok (cycles + n)
  | .err f => .err f

/-- Taking an interrupt: `dispatch(k, ifl)` of R184. PC is saved on the stack; no register, flag or
other status is. -/
def State.takeInterrupt (s : State) (line : Line) (ifl : Byte) : State :=
  let s1 := { s with ime := false }
  let s2 := s1.busWrite s1.cfg.ifAddr (ifl &&& ~~~ lineMask line)
  let s3 := s2.push16 s2.pc
  { s3 with
    halted := false
    pc := lineVector line
    result := s3.result.addCycles s3.cfg.intDispatchCycles }

/-- Returning from one: what RETI restores (R166, R188), PC from the stack and IME to 1. -/
def State.returnFromInterrupt (s : State) (cycles : Nat) : State :=
  let r := s.pop16
  { r.2 with pc := r.1, ime := true, result := .ok cycles }

/-- The interrupt controller's scan at an instruction boundary (R183, R185). -/
def State.boundary (s : State) : State :=
  if s.ime then
    let r1 := s.busRead s.cfg.ieAddr
    let r2 := r1.2.busRead s.cfg.ifAddr
    match firstPending (r1.1 &&& r2.1 &&& 0x1F#8) with
    | none => r2.2
    | some line => r2.2.takeInterrupt line r2.1
  else s

/-! ### The environment, between steps (R61, R173, R182) -/

/-- The core's `irq_request` input: its whole effect on the core is `halted <- 0` (R182). -/
def State.irqRequest (s : State) : State := { s with halted := false }

/-- The core's reset input (R173, R196, R197): the core's registers take their reset values; the bus,
IE and IF among its bytes, is not reset by the core. -/
def State.resetCore (s : State) : State :=
  { State.resetWith s.cfg with
    mem := s.mem, answers := s.answers, inputs := s.inputs, trace := s.trace }

/-- One action of the environment, performed whole (R61, R62). -/
def State.applyAction (s : State) : EnvAction → State
  | .busWrite a v => { s with mem := s.mem.write a v }
  | .irqRequest line =>
    { s with mem := s.mem.write s.cfg.ifAddr (s.mem.read s.cfg.ifAddr ||| lineMask line) }.irqRequest
  | .reset => s.resetCore

/-- What the environment does before this step (R61). -/
def State.deliver (s : State) : State :=
  match s.inputs with
  | [] => s
  | acts :: rest => acts.foldl State.applyAction { s with inputs := rest }

end Sys2Proof.Machine
end

