-- ==== Sys2Proof/Machine/Operands.lean ====
section
/-! DEFINITION. Every operand form of R72 to R76 and R83: registers, register pairs, the byte at HL,
the high page, conditions. -/

namespace Sys2Proof.Machine

/-- `x[r]` (R18). -/
def State.reg (s : State) : Reg8 → Byte
  | .B => s.b
  | .C => s.c
  | .D => s.d
  | .E => s.e
  | .H => s.h
  | .L => s.l
  | .A => s.a

/-- `x[r] <- v` (R18). -/
def State.setReg (s : State) (r : Reg8) (v : Byte) : State :=
  match r with
  | .B => { s with b := v }
  | .C => { s with c := v }
  | .D => { s with d := v }
  | .E => { s with e := v }
  | .H => { s with h := v }
  | .L => { s with l := v }
  | .A => { s with a := v }

/-- `x[BC]` (R26). -/
def State.bc (s : State) : Word := joinBytes s.b s.c

/-- `x[DE]` (R26). -/
def State.de (s : State) : Word := joinBytes s.d s.e

/-- `x[HL]` (R26). -/
def State.hl (s : State) : Word := joinBytes s.h s.l

/-- `x[AF]` (R26): the low byte is F, whose bits 3 to 0 read as 0 (R35). -/
def State.af (s : State) : Word := joinBytes s.a s.flags.toByte

/-- `x[HL] <- w` (R27). -/
def State.setHL (s : State) (w : Word) : State := { s with h := hiByte w, l := loByte w }

/-- The 16-bit operand of R73. -/
def State.reg16 (s : State) : Reg16 → Word
  | .BC => s.bc
  | .DE => s.de
  | .HL => s.hl
  | .SP => s.sp

/-- Write the 16-bit operand of R73 (R27: the high byte to the first-named register). -/
def State.setReg16 (s : State) (rr : Reg16) (w : Word) : State :=
  match rr with
  | .BC => { s with b := hiByte w, c := loByte w }
  | .DE => { s with d := hiByte w, e := loByte w }
  | .HL => s.setHL w
  | .SP => { s with sp := w }

/-- The pair PUSH stores (R74). -/
def State.stackPair (s : State) : StackPair → Word
  | .BC => s.bc
  | .DE => s.de
  | .HL => s.hl
  | .AF => s.af

/-- The pair POP loads (R74, R114): AF takes the byte's top nibble into the flags (R35). -/
def State.setStackPair (s : State) (rr : StackPair) (w : Word) : State :=
  match rr with
  | .BC => { s with b := hiByte w, c := loByte w }
  | .DE => { s with d := hiByte w, e := loByte w }
  | .HL => s.setHL w
  | .AF => { s with a := hiByte w, flags := Flags.ofByte (loByte w) }

/-- Read the 8-bit operand of R72: a register, or the byte the bus answers at `x[HL]`. -/
def State.readOperand (s : State) : Operand8 → Byte × State
  | .reg r => (s.reg r, s)
  | .mHL => s.busRead s.hl

/-- Write the 8-bit operand of R72. -/
def State.writeOperand (s : State) (o : Operand8) (v : Byte) : State :=
  match o with
  | .reg r => s.setReg r v
  | .mHL => s.busWrite s.hl v

/-- The address of the high-page operand, `0xFF00 + n` (R83). -/
def highPage (n : Byte) : Word := 0xFF00#16 + zext16 n

/-- `cond(cc)` (R76, R154). -/
def State.cond (s : State) : Cond → Bool
  | .NZ => !s.flags.z
  | .Z => s.flags.z
  | .NC => !s.flags.c
  | .C => s.flags.c

end Sys2Proof.Machine
end

