-- ==== Sys2Proof/Machine/Alu16.lean ====
section
/-! DEFINITION. 16-bit arithmetic (R133 to R137). -/

namespace Sys2Proof.Machine

/-! ### Shared operations -/

/-- `ADD HL,rr` (R133). -/
def State.addHL (s : State) (rr : Reg16) : State :=
  let r := add16 s.hl (s.reg16 rr) s.flags
  ({ s with flags := r.2 }.setHL r.1).finish 1 8

/-- `INC rr` (R134): no flag. -/
def State.incPair (s : State) (rr : Reg16) : State := (s.setReg16 rr (s.reg16 rr + 1#16)).finish 1 8

/-- `DEC rr` (R135): no flag. -/
def State.decPair (s : State) (rr : Reg16) : State := (s.setReg16 rr (s.reg16 rr - 1#16)).finish 1 8

/-- `ADD SP,e8` (R136). -/
def State.addSP (s : State) (e : Byte) : State :=
  let r := addDisplacement s.sp e
  { s with sp := r.1, flags := r.2 }.finish 2 16

/-- `LD HL,SP+e8` (R137): SP is not written. -/
def State.ldHLSP (s : State) (e : Byte) : State :=
  let r := addDisplacement s.sp e
  ({ s with flags := r.2 }.setHL r.1).finish 2 12

/-! ### The meanings, one per row of the opcode table -/

/-- `INC BC` (R134). -/
def execInc_BC (s : State) : Result := .next (s.incPair .BC)

/-- `ADD HL,BC` (R133). -/
def execAdd_HL_BC (s : State) : Result := .next (s.addHL .BC)

/-- `DEC BC` (R135). -/
def execDec_BC (s : State) : Result := .next (s.decPair .BC)

/-- `INC DE` (R134). -/
def execInc_DE (s : State) : Result := .next (s.incPair .DE)

/-- `ADD HL,DE` (R133). -/
def execAdd_HL_DE (s : State) : Result := .next (s.addHL .DE)

/-- `DEC DE` (R135). -/
def execDec_DE (s : State) : Result := .next (s.decPair .DE)

/-- `INC HL` (R134). -/
def execInc_HL (s : State) : Result := .next (s.incPair .HL)

/-- `ADD HL,HL` (R133). -/
def execAdd_HL_HL (s : State) : Result := .next (s.addHL .HL)

/-- `DEC HL` (R135). -/
def execDec_HL (s : State) : Result := .next (s.decPair .HL)

/-- `INC SP` (R134). -/
def execInc_SP (s : State) : Result := .next (s.incPair .SP)

/-- `ADD HL,SP` (R133). -/
def execAdd_HL_SP (s : State) : Result := .next (s.addHL .SP)

/-- `DEC SP` (R135). -/
def execDec_SP (s : State) : Result := .next (s.decPair .SP)

/-- `ADD SP,e8` (R136). -/
def execAdd_SP_e8 (e : Byte) (s : State) : Result := .next (s.addSP e)

/-- `LD HL,SP+e8` (R137). -/
def execLd_HL_SPe8 (e : Byte) (s : State) : Result := .next (s.ldHLSP e)

end Sys2Proof.Machine
end

