-- ==== Sys2Proof/Machine/Alu8.lean ====
section
/-! DEFINITION. 8-bit arithmetic and logic (R115 to R132). -/

namespace Sys2Proof.Machine

/-! ### Shared operations -/

/-- An ALU operation on A and `v` (R117 to R124). -/
def State.alu (s : State) (op : AluOp) (v : Byte) : State :=
  let r := aluResult op s.a v s.flags
  { s with a := r.1, flags := r.2 }

/-- The register and memory forms of R116: 4 cycles, 8 for the byte at HL. -/
def State.aluOperand (s : State) (op : AluOp) (o : Operand8) : State :=
  let r := s.readOperand o
  (r.2.alu op r.1).finish 1 (match o with | .reg _ => 4 | .mHL => 8)

/-- The immediate form of R116. -/
def State.aluImm (s : State) (op : AluOp) (v : Byte) : State := (s.alu op v).finish 2 8

/-- `INC r` (R125). -/
def State.incReg (s : State) (r : Reg8) : State :=
  let i := inc8 (s.reg r) s.flags
  ({ s with flags := i.2 }.setReg r i.1).finish 1 4

/-- `INC (HL)` (R126). -/
def State.incMem (s : State) : State :=
  let m := s.busRead s.hl
  let i := inc8 m.1 s.flags
  ({ m.2 with flags := i.2 }.busWrite s.hl i.1).finish 1 12

/-- `DEC r` (R127). -/
def State.decReg (s : State) (r : Reg8) : State :=
  let i := dec8 (s.reg r) s.flags
  ({ s with flags := i.2 }.setReg r i.1).finish 1 4

/-- `DEC (HL)` (R128). -/
def State.decMem (s : State) : State :=
  let m := s.busRead s.hl
  let i := dec8 m.1 s.flags
  ({ m.2 with flags := i.2 }.busWrite s.hl i.1).finish 1 12

/-- `DAA` (R129). -/
def State.daa (s : State) : State :=
  let r := daa8 s.a s.flags
  { s with a := r.1, flags := r.2 }.finish 1 4

/-- `CPL` (R130): flags `- 1 1 -`. -/
def State.cpl (s : State) : State :=
  { s with a := ~~~ s.a, flags := { s.flags with n := true, h := true } }.finish 1 4

/-- `SCF` (R131): flags `- 0 0 1`. -/
def State.scf (s : State) : State :=
  { s with flags := { s.flags with n := false, h := false, c := true } }.finish 1 4

/-- `CCF` (R132): flags `- 0 0 !C`. -/
def State.ccf (s : State) : State :=
  { s with flags := { s.flags with n := false, h := false, c := !s.flags.c } }.finish 1 4

/-! ### The meanings, one per row of the opcode table -/

/-- `INC B` (R125). -/
def execInc_B (s : State) : Result := .next (s.incReg .B)

/-- `DEC B` (R127). -/
def execDec_B (s : State) : Result := .next (s.decReg .B)

/-- `INC C` (R125). -/
def execInc_C (s : State) : Result := .next (s.incReg .C)

/-- `DEC C` (R127). -/
def execDec_C (s : State) : Result := .next (s.decReg .C)

/-- `INC D` (R125). -/
def execInc_D (s : State) : Result := .next (s.incReg .D)

/-- `DEC D` (R127). -/
def execDec_D (s : State) : Result := .next (s.decReg .D)

/-- `INC E` (R125). -/
def execInc_E (s : State) : Result := .next (s.incReg .E)

/-- `DEC E` (R127). -/
def execDec_E (s : State) : Result := .next (s.decReg .E)

/-- `INC H` (R125). -/
def execInc_H (s : State) : Result := .next (s.incReg .H)

/-- `DEC H` (R127). -/
def execDec_H (s : State) : Result := .next (s.decReg .H)

/-- `DAA` (R129). -/
def execDaa (s : State) : Result := .next s.daa

/-- `INC L` (R125). -/
def execInc_L (s : State) : Result := .next (s.incReg .L)

/-- `DEC L` (R127). -/
def execDec_L (s : State) : Result := .next (s.decReg .L)

/-- `CPL` (R130). -/
def execCpl (s : State) : Result := .next s.cpl

/-- `INC (HL)` (R126). -/
def execInc_mHL (s : State) : Result := .next s.incMem

/-- `DEC (HL)` (R128). -/
def execDec_mHL (s : State) : Result := .next s.decMem

/-- `SCF` (R131). -/
def execScf (s : State) : Result := .next s.scf

/-- `INC A` (R125). -/
def execInc_A (s : State) : Result := .next (s.incReg .A)

/-- `DEC A` (R127). -/
def execDec_A (s : State) : Result := .next (s.decReg .A)

/-- `CCF` (R132). -/
def execCcf (s : State) : Result := .next s.ccf

/-- `ADD A,B` (R117). -/
def execAdd_A_B (s : State) : Result := .next (s.aluOperand .add (.reg .B))

/-- `ADD A,C` (R117). -/
def execAdd_A_C (s : State) : Result := .next (s.aluOperand .add (.reg .C))

/-- `ADD A,D` (R117). -/
def execAdd_A_D (s : State) : Result := .next (s.aluOperand .add (.reg .D))

/-- `ADD A,E` (R117). -/
def execAdd_A_E (s : State) : Result := .next (s.aluOperand .add (.reg .E))

/-- `ADD A,H` (R117). -/
def execAdd_A_H (s : State) : Result := .next (s.aluOperand .add (.reg .H))

/-- `ADD A,L` (R117). -/
def execAdd_A_L (s : State) : Result := .next (s.aluOperand .add (.reg .L))

/-- `ADD A,(HL)` (R117). -/
def execAdd_A_mHL (s : State) : Result := .next (s.aluOperand .add .mHL)

/-- `ADD A,A` (R117). -/
def execAdd_A_A (s : State) : Result := .next (s.aluOperand .add (.reg .A))

/-- `ADC A,B` (R118). -/
def execAdc_A_B (s : State) : Result := .next (s.aluOperand .adc (.reg .B))

/-- `ADC A,C` (R118). -/
def execAdc_A_C (s : State) : Result := .next (s.aluOperand .adc (.reg .C))

/-- `ADC A,D` (R118). -/
def execAdc_A_D (s : State) : Result := .next (s.aluOperand .adc (.reg .D))

/-- `ADC A,E` (R118). -/
def execAdc_A_E (s : State) : Result := .next (s.aluOperand .adc (.reg .E))

/-- `ADC A,H` (R118). -/
def execAdc_A_H (s : State) : Result := .next (s.aluOperand .adc (.reg .H))

/-- `ADC A,L` (R118). -/
def execAdc_A_L (s : State) : Result := .next (s.aluOperand .adc (.reg .L))

/-- `ADC A,(HL)` (R118). -/
def execAdc_A_mHL (s : State) : Result := .next (s.aluOperand .adc .mHL)

/-- `ADC A,A` (R118). -/
def execAdc_A_A (s : State) : Result := .next (s.aluOperand .adc (.reg .A))

/-- `SUB B` (R119). -/
def execSub_B (s : State) : Result := .next (s.aluOperand .sub (.reg .B))

/-- `SUB C` (R119). -/
def execSub_C (s : State) : Result := .next (s.aluOperand .sub (.reg .C))

/-- `SUB D` (R119). -/
def execSub_D (s : State) : Result := .next (s.aluOperand .sub (.reg .D))

/-- `SUB E` (R119). -/
def execSub_E (s : State) : Result := .next (s.aluOperand .sub (.reg .E))

/-- `SUB H` (R119). -/
def execSub_H (s : State) : Result := .next (s.aluOperand .sub (.reg .H))

/-- `SUB L` (R119). -/
def execSub_L (s : State) : Result := .next (s.aluOperand .sub (.reg .L))

/-- `SUB (HL)` (R119). -/
def execSub_mHL (s : State) : Result := .next (s.aluOperand .sub .mHL)

/-- `SUB A` (R119). -/
def execSub_A (s : State) : Result := .next (s.aluOperand .sub (.reg .A))

/-- `SBC A,B` (R120). -/
def execSbc_A_B (s : State) : Result := .next (s.aluOperand .sbc (.reg .B))

/-- `SBC A,C` (R120). -/
def execSbc_A_C (s : State) : Result := .next (s.aluOperand .sbc (.reg .C))

/-- `SBC A,D` (R120). -/
def execSbc_A_D (s : State) : Result := .next (s.aluOperand .sbc (.reg .D))

/-- `SBC A,E` (R120). -/
def execSbc_A_E (s : State) : Result := .next (s.aluOperand .sbc (.reg .E))

/-- `SBC A,H` (R120). -/
def execSbc_A_H (s : State) : Result := .next (s.aluOperand .sbc (.reg .H))

/-- `SBC A,L` (R120). -/
def execSbc_A_L (s : State) : Result := .next (s.aluOperand .sbc (.reg .L))

/-- `SBC A,(HL)` (R120). -/
def execSbc_A_mHL (s : State) : Result := .next (s.aluOperand .sbc .mHL)

/-- `SBC A,A` (R120). -/
def execSbc_A_A (s : State) : Result := .next (s.aluOperand .sbc (.reg .A))

/-- `AND B` (R122). -/
def execAnd_B (s : State) : Result := .next (s.aluOperand .and (.reg .B))

/-- `AND C` (R122). -/
def execAnd_C (s : State) : Result := .next (s.aluOperand .and (.reg .C))

/-- `AND D` (R122). -/
def execAnd_D (s : State) : Result := .next (s.aluOperand .and (.reg .D))

/-- `AND E` (R122). -/
def execAnd_E (s : State) : Result := .next (s.aluOperand .and (.reg .E))

/-- `AND H` (R122). -/
def execAnd_H (s : State) : Result := .next (s.aluOperand .and (.reg .H))

/-- `AND L` (R122). -/
def execAnd_L (s : State) : Result := .next (s.aluOperand .and (.reg .L))

/-- `AND (HL)` (R122). -/
def execAnd_mHL (s : State) : Result := .next (s.aluOperand .and .mHL)

/-- `AND A` (R122). -/
def execAnd_A (s : State) : Result := .next (s.aluOperand .and (.reg .A))

/-- `XOR B` (R123). -/
def execXor_B (s : State) : Result := .next (s.aluOperand .xor (.reg .B))

/-- `XOR C` (R123). -/
def execXor_C (s : State) : Result := .next (s.aluOperand .xor (.reg .C))

/-- `XOR D` (R123). -/
def execXor_D (s : State) : Result := .next (s.aluOperand .xor (.reg .D))

/-- `XOR E` (R123). -/
def execXor_E (s : State) : Result := .next (s.aluOperand .xor (.reg .E))

/-- `XOR H` (R123). -/
def execXor_H (s : State) : Result := .next (s.aluOperand .xor (.reg .H))

/-- `XOR L` (R123). -/
def execXor_L (s : State) : Result := .next (s.aluOperand .xor (.reg .L))

/-- `XOR (HL)` (R123). -/
def execXor_mHL (s : State) : Result := .next (s.aluOperand .xor .mHL)

/-- `XOR A` (R123). -/
def execXor_A (s : State) : Result := .next (s.aluOperand .xor (.reg .A))

/-- `OR B` (R124). -/
def execOr_B (s : State) : Result := .next (s.aluOperand .or (.reg .B))

/-- `OR C` (R124). -/
def execOr_C (s : State) : Result := .next (s.aluOperand .or (.reg .C))

/-- `OR D` (R124). -/
def execOr_D (s : State) : Result := .next (s.aluOperand .or (.reg .D))

/-- `OR E` (R124). -/
def execOr_E (s : State) : Result := .next (s.aluOperand .or (.reg .E))

/-- `OR H` (R124). -/
def execOr_H (s : State) : Result := .next (s.aluOperand .or (.reg .H))

/-- `OR L` (R124). -/
def execOr_L (s : State) : Result := .next (s.aluOperand .or (.reg .L))

/-- `OR (HL)` (R124). -/
def execOr_mHL (s : State) : Result := .next (s.aluOperand .or .mHL)

/-- `OR A` (R124). -/
def execOr_A (s : State) : Result := .next (s.aluOperand .or (.reg .A))

/-- `CP B` (R121). -/
def execCp_B (s : State) : Result := .next (s.aluOperand .cp (.reg .B))

/-- `CP C` (R121). -/
def execCp_C (s : State) : Result := .next (s.aluOperand .cp (.reg .C))

/-- `CP D` (R121). -/
def execCp_D (s : State) : Result := .next (s.aluOperand .cp (.reg .D))

/-- `CP E` (R121). -/
def execCp_E (s : State) : Result := .next (s.aluOperand .cp (.reg .E))

/-- `CP H` (R121). -/
def execCp_H (s : State) : Result := .next (s.aluOperand .cp (.reg .H))

/-- `CP L` (R121). -/
def execCp_L (s : State) : Result := .next (s.aluOperand .cp (.reg .L))

/-- `CP (HL)` (R121). -/
def execCp_mHL (s : State) : Result := .next (s.aluOperand .cp .mHL)

/-- `CP A` (R121). -/
def execCp_A (s : State) : Result := .next (s.aluOperand .cp (.reg .A))

/-- `ADD A,d8` (R117). -/
def execAdd_A_d8 (v : Byte) (s : State) : Result := .next (s.aluImm .add v)

/-- `ADC A,d8` (R118). -/
def execAdc_A_d8 (v : Byte) (s : State) : Result := .next (s.aluImm .adc v)

/-- `SUB d8` (R119). -/
def execSub_d8 (v : Byte) (s : State) : Result := .next (s.aluImm .sub v)

/-- `SBC A,d8` (R120). -/
def execSbc_A_d8 (v : Byte) (s : State) : Result := .next (s.aluImm .sbc v)

/-- `AND d8` (R122). -/
def execAnd_d8 (v : Byte) (s : State) : Result := .next (s.aluImm .and v)

/-- `XOR d8` (R123). -/
def execXor_d8 (v : Byte) (s : State) : Result := .next (s.aluImm .xor v)

/-- `OR d8` (R124). -/
def execOr_d8 (v : Byte) (s : State) : Result := .next (s.aluImm .or v)

/-- `CP d8` (R121). -/
def execCp_d8 (v : Byte) (s : State) : Result := .next (s.aluImm .cp v)

end Sys2Proof.Machine
end

