-- ==== Sys2Proof/Machine/Bit.lean ====
section
/-! DEFINITION. Single-bit test, reset and set (R151 to R153). -/

namespace Sys2Proof.Machine

/-! ### Shared operations -/

/-- `BIT b,z` (R151): the operand is read and not written back; 8 cycles, 12 for the byte at HL. -/
def State.bitOperand (s : State) (b : Fin 8) (o : Operand8) : State :=
  let m := s.readOperand o
  { m.2 with flags := bitFlags m.1 b s.flags }.finish 2 (match o with | .reg _ => 8 | .mHL => 12)

/-- `RES b,z` (R152): always written back; 8 cycles, 16 for the byte at HL. -/
def State.resOperand (s : State) (b : Fin 8) (o : Operand8) : State :=
  let m := s.readOperand o
  (m.2.writeOperand o (resBit m.1 b)).finish 2 (match o with | .reg _ => 8 | .mHL => 16)

/-- `SET b,z` (R153): always written back; 8 cycles, 16 for the byte at HL. -/
def State.setOperand (s : State) (b : Fin 8) (o : Operand8) : State :=
  let m := s.readOperand o
  (m.2.writeOperand o (setBit m.1 b)).finish 2 (match o with | .reg _ => 8 | .mHL => 16)

/-! ### The meanings, one per row of the opcode table -/

/-- `BIT 0,B` (R151). -/
def execBit_0_B (s : State) : Result := .next (s.bitOperand 0 (.reg .B))

/-- `BIT 0,C` (R151). -/
def execBit_0_C (s : State) : Result := .next (s.bitOperand 0 (.reg .C))

/-- `BIT 0,D` (R151). -/
def execBit_0_D (s : State) : Result := .next (s.bitOperand 0 (.reg .D))

/-- `BIT 0,E` (R151). -/
def execBit_0_E (s : State) : Result := .next (s.bitOperand 0 (.reg .E))

/-- `BIT 0,H` (R151). -/
def execBit_0_H (s : State) : Result := .next (s.bitOperand 0 (.reg .H))

/-- `BIT 0,L` (R151). -/
def execBit_0_L (s : State) : Result := .next (s.bitOperand 0 (.reg .L))

/-- `BIT 0,(HL)` (R151). -/
def execBit_0_mHL (s : State) : Result := .next (s.bitOperand 0 .mHL)

/-- `BIT 0,A` (R151). -/
def execBit_0_A (s : State) : Result := .next (s.bitOperand 0 (.reg .A))

/-- `BIT 1,B` (R151). -/
def execBit_1_B (s : State) : Result := .next (s.bitOperand 1 (.reg .B))

/-- `BIT 1,C` (R151). -/
def execBit_1_C (s : State) : Result := .next (s.bitOperand 1 (.reg .C))

/-- `BIT 1,D` (R151). -/
def execBit_1_D (s : State) : Result := .next (s.bitOperand 1 (.reg .D))

/-- `BIT 1,E` (R151). -/
def execBit_1_E (s : State) : Result := .next (s.bitOperand 1 (.reg .E))

/-- `BIT 1,H` (R151). -/
def execBit_1_H (s : State) : Result := .next (s.bitOperand 1 (.reg .H))

/-- `BIT 1,L` (R151). -/
def execBit_1_L (s : State) : Result := .next (s.bitOperand 1 (.reg .L))

/-- `BIT 1,(HL)` (R151). -/
def execBit_1_mHL (s : State) : Result := .next (s.bitOperand 1 .mHL)

/-- `BIT 1,A` (R151). -/
def execBit_1_A (s : State) : Result := .next (s.bitOperand 1 (.reg .A))

/-- `BIT 2,B` (R151). -/
def execBit_2_B (s : State) : Result := .next (s.bitOperand 2 (.reg .B))

/-- `BIT 2,C` (R151). -/
def execBit_2_C (s : State) : Result := .next (s.bitOperand 2 (.reg .C))

/-- `BIT 2,D` (R151). -/
def execBit_2_D (s : State) : Result := .next (s.bitOperand 2 (.reg .D))

/-- `BIT 2,E` (R151). -/
def execBit_2_E (s : State) : Result := .next (s.bitOperand 2 (.reg .E))

/-- `BIT 2,H` (R151). -/
def execBit_2_H (s : State) : Result := .next (s.bitOperand 2 (.reg .H))

/-- `BIT 2,L` (R151). -/
def execBit_2_L (s : State) : Result := .next (s.bitOperand 2 (.reg .L))

/-- `BIT 2,(HL)` (R151). -/
def execBit_2_mHL (s : State) : Result := .next (s.bitOperand 2 .mHL)

/-- `BIT 2,A` (R151). -/
def execBit_2_A (s : State) : Result := .next (s.bitOperand 2 (.reg .A))

/-- `BIT 3,B` (R151). -/
def execBit_3_B (s : State) : Result := .next (s.bitOperand 3 (.reg .B))

/-- `BIT 3,C` (R151). -/
def execBit_3_C (s : State) : Result := .next (s.bitOperand 3 (.reg .C))

/-- `BIT 3,D` (R151). -/
def execBit_3_D (s : State) : Result := .next (s.bitOperand 3 (.reg .D))

/-- `BIT 3,E` (R151). -/
def execBit_3_E (s : State) : Result := .next (s.bitOperand 3 (.reg .E))

/-- `BIT 3,H` (R151). -/
def execBit_3_H (s : State) : Result := .next (s.bitOperand 3 (.reg .H))

/-- `BIT 3,L` (R151). -/
def execBit_3_L (s : State) : Result := .next (s.bitOperand 3 (.reg .L))

/-- `BIT 3,(HL)` (R151). -/
def execBit_3_mHL (s : State) : Result := .next (s.bitOperand 3 .mHL)

/-- `BIT 3,A` (R151). -/
def execBit_3_A (s : State) : Result := .next (s.bitOperand 3 (.reg .A))

/-- `BIT 4,B` (R151). -/
def execBit_4_B (s : State) : Result := .next (s.bitOperand 4 (.reg .B))

/-- `BIT 4,C` (R151). -/
def execBit_4_C (s : State) : Result := .next (s.bitOperand 4 (.reg .C))

/-- `BIT 4,D` (R151). -/
def execBit_4_D (s : State) : Result := .next (s.bitOperand 4 (.reg .D))

/-- `BIT 4,E` (R151). -/
def execBit_4_E (s : State) : Result := .next (s.bitOperand 4 (.reg .E))

/-- `BIT 4,H` (R151). -/
def execBit_4_H (s : State) : Result := .next (s.bitOperand 4 (.reg .H))

/-- `BIT 4,L` (R151). -/
def execBit_4_L (s : State) : Result := .next (s.bitOperand 4 (.reg .L))

/-- `BIT 4,(HL)` (R151). -/
def execBit_4_mHL (s : State) : Result := .next (s.bitOperand 4 .mHL)

/-- `BIT 4,A` (R151). -/
def execBit_4_A (s : State) : Result := .next (s.bitOperand 4 (.reg .A))

/-- `BIT 5,B` (R151). -/
def execBit_5_B (s : State) : Result := .next (s.bitOperand 5 (.reg .B))

/-- `BIT 5,C` (R151). -/
def execBit_5_C (s : State) : Result := .next (s.bitOperand 5 (.reg .C))

/-- `BIT 5,D` (R151). -/
def execBit_5_D (s : State) : Result := .next (s.bitOperand 5 (.reg .D))

/-- `BIT 5,E` (R151). -/
def execBit_5_E (s : State) : Result := .next (s.bitOperand 5 (.reg .E))

/-- `BIT 5,H` (R151). -/
def execBit_5_H (s : State) : Result := .next (s.bitOperand 5 (.reg .H))

/-- `BIT 5,L` (R151). -/
def execBit_5_L (s : State) : Result := .next (s.bitOperand 5 (.reg .L))

/-- `BIT 5,(HL)` (R151). -/
def execBit_5_mHL (s : State) : Result := .next (s.bitOperand 5 .mHL)

/-- `BIT 5,A` (R151). -/
def execBit_5_A (s : State) : Result := .next (s.bitOperand 5 (.reg .A))

/-- `BIT 6,B` (R151). -/
def execBit_6_B (s : State) : Result := .next (s.bitOperand 6 (.reg .B))

/-- `BIT 6,C` (R151). -/
def execBit_6_C (s : State) : Result := .next (s.bitOperand 6 (.reg .C))

/-- `BIT 6,D` (R151). -/
def execBit_6_D (s : State) : Result := .next (s.bitOperand 6 (.reg .D))

/-- `BIT 6,E` (R151). -/
def execBit_6_E (s : State) : Result := .next (s.bitOperand 6 (.reg .E))

/-- `BIT 6,H` (R151). -/
def execBit_6_H (s : State) : Result := .next (s.bitOperand 6 (.reg .H))

/-- `BIT 6,L` (R151). -/
def execBit_6_L (s : State) : Result := .next (s.bitOperand 6 (.reg .L))

/-- `BIT 6,(HL)` (R151). -/
def execBit_6_mHL (s : State) : Result := .next (s.bitOperand 6 .mHL)

/-- `BIT 6,A` (R151). -/
def execBit_6_A (s : State) : Result := .next (s.bitOperand 6 (.reg .A))

/-- `BIT 7,B` (R151). -/
def execBit_7_B (s : State) : Result := .next (s.bitOperand 7 (.reg .B))

/-- `BIT 7,C` (R151). -/
def execBit_7_C (s : State) : Result := .next (s.bitOperand 7 (.reg .C))

/-- `BIT 7,D` (R151). -/
def execBit_7_D (s : State) : Result := .next (s.bitOperand 7 (.reg .D))

/-- `BIT 7,E` (R151). -/
def execBit_7_E (s : State) : Result := .next (s.bitOperand 7 (.reg .E))

/-- `BIT 7,H` (R151). -/
def execBit_7_H (s : State) : Result := .next (s.bitOperand 7 (.reg .H))

/-- `BIT 7,L` (R151). -/
def execBit_7_L (s : State) : Result := .next (s.bitOperand 7 (.reg .L))

/-- `BIT 7,(HL)` (R151). -/
def execBit_7_mHL (s : State) : Result := .next (s.bitOperand 7 .mHL)

/-- `BIT 7,A` (R151). -/
def execBit_7_A (s : State) : Result := .next (s.bitOperand 7 (.reg .A))

/-- `RES 0,B` (R152). -/
def execRes_0_B (s : State) : Result := .next (s.resOperand 0 (.reg .B))

/-- `RES 0,C` (R152). -/
def execRes_0_C (s : State) : Result := .next (s.resOperand 0 (.reg .C))

/-- `RES 0,D` (R152). -/
def execRes_0_D (s : State) : Result := .next (s.resOperand 0 (.reg .D))

/-- `RES 0,E` (R152). -/
def execRes_0_E (s : State) : Result := .next (s.resOperand 0 (.reg .E))

/-- `RES 0,H` (R152). -/
def execRes_0_H (s : State) : Result := .next (s.resOperand 0 (.reg .H))

/-- `RES 0,L` (R152). -/
def execRes_0_L (s : State) : Result := .next (s.resOperand 0 (.reg .L))

/-- `RES 0,(HL)` (R152). -/
def execRes_0_mHL (s : State) : Result := .next (s.resOperand 0 .mHL)

/-- `RES 0,A` (R152). -/
def execRes_0_A (s : State) : Result := .next (s.resOperand 0 (.reg .A))

/-- `RES 1,B` (R152). -/
def execRes_1_B (s : State) : Result := .next (s.resOperand 1 (.reg .B))

/-- `RES 1,C` (R152). -/
def execRes_1_C (s : State) : Result := .next (s.resOperand 1 (.reg .C))

/-- `RES 1,D` (R152). -/
def execRes_1_D (s : State) : Result := .next (s.resOperand 1 (.reg .D))

/-- `RES 1,E` (R152). -/
def execRes_1_E (s : State) : Result := .next (s.resOperand 1 (.reg .E))

/-- `RES 1,H` (R152). -/
def execRes_1_H (s : State) : Result := .next (s.resOperand 1 (.reg .H))

/-- `RES 1,L` (R152). -/
def execRes_1_L (s : State) : Result := .next (s.resOperand 1 (.reg .L))

/-- `RES 1,(HL)` (R152). -/
def execRes_1_mHL (s : State) : Result := .next (s.resOperand 1 .mHL)

/-- `RES 1,A` (R152). -/
def execRes_1_A (s : State) : Result := .next (s.resOperand 1 (.reg .A))

/-- `RES 2,B` (R152). -/
def execRes_2_B (s : State) : Result := .next (s.resOperand 2 (.reg .B))

/-- `RES 2,C` (R152). -/
def execRes_2_C (s : State) : Result := .next (s.resOperand 2 (.reg .C))

/-- `RES 2,D` (R152). -/
def execRes_2_D (s : State) : Result := .next (s.resOperand 2 (.reg .D))

/-- `RES 2,E` (R152). -/
def execRes_2_E (s : State) : Result := .next (s.resOperand 2 (.reg .E))

/-- `RES 2,H` (R152). -/
def execRes_2_H (s : State) : Result := .next (s.resOperand 2 (.reg .H))

/-- `RES 2,L` (R152). -/
def execRes_2_L (s : State) : Result := .next (s.resOperand 2 (.reg .L))

/-- `RES 2,(HL)` (R152). -/
def execRes_2_mHL (s : State) : Result := .next (s.resOperand 2 .mHL)

/-- `RES 2,A` (R152). -/
def execRes_2_A (s : State) : Result := .next (s.resOperand 2 (.reg .A))

/-- `RES 3,B` (R152). -/
def execRes_3_B (s : State) : Result := .next (s.resOperand 3 (.reg .B))

/-- `RES 3,C` (R152). -/
def execRes_3_C (s : State) : Result := .next (s.resOperand 3 (.reg .C))

/-- `RES 3,D` (R152). -/
def execRes_3_D (s : State) : Result := .next (s.resOperand 3 (.reg .D))

/-- `RES 3,E` (R152). -/
def execRes_3_E (s : State) : Result := .next (s.resOperand 3 (.reg .E))

/-- `RES 3,H` (R152). -/
def execRes_3_H (s : State) : Result := .next (s.resOperand 3 (.reg .H))

/-- `RES 3,L` (R152). -/
def execRes_3_L (s : State) : Result := .next (s.resOperand 3 (.reg .L))

/-- `RES 3,(HL)` (R152). -/
def execRes_3_mHL (s : State) : Result := .next (s.resOperand 3 .mHL)

/-- `RES 3,A` (R152). -/
def execRes_3_A (s : State) : Result := .next (s.resOperand 3 (.reg .A))

/-- `RES 4,B` (R152). -/
def execRes_4_B (s : State) : Result := .next (s.resOperand 4 (.reg .B))

/-- `RES 4,C` (R152). -/
def execRes_4_C (s : State) : Result := .next (s.resOperand 4 (.reg .C))

/-- `RES 4,D` (R152). -/
def execRes_4_D (s : State) : Result := .next (s.resOperand 4 (.reg .D))

/-- `RES 4,E` (R152). -/
def execRes_4_E (s : State) : Result := .next (s.resOperand 4 (.reg .E))

/-- `RES 4,H` (R152). -/
def execRes_4_H (s : State) : Result := .next (s.resOperand 4 (.reg .H))

/-- `RES 4,L` (R152). -/
def execRes_4_L (s : State) : Result := .next (s.resOperand 4 (.reg .L))

/-- `RES 4,(HL)` (R152). -/
def execRes_4_mHL (s : State) : Result := .next (s.resOperand 4 .mHL)

/-- `RES 4,A` (R152). -/
def execRes_4_A (s : State) : Result := .next (s.resOperand 4 (.reg .A))

/-- `RES 5,B` (R152). -/
def execRes_5_B (s : State) : Result := .next (s.resOperand 5 (.reg .B))

/-- `RES 5,C` (R152). -/
def execRes_5_C (s : State) : Result := .next (s.resOperand 5 (.reg .C))

/-- `RES 5,D` (R152). -/
def execRes_5_D (s : State) : Result := .next (s.resOperand 5 (.reg .D))

/-- `RES 5,E` (R152). -/
def execRes_5_E (s : State) : Result := .next (s.resOperand 5 (.reg .E))

/-- `RES 5,H` (R152). -/
def execRes_5_H (s : State) : Result := .next (s.resOperand 5 (.reg .H))

/-- `RES 5,L` (R152). -/
def execRes_5_L (s : State) : Result := .next (s.resOperand 5 (.reg .L))

/-- `RES 5,(HL)` (R152). -/
def execRes_5_mHL (s : State) : Result := .next (s.resOperand 5 .mHL)

/-- `RES 5,A` (R152). -/
def execRes_5_A (s : State) : Result := .next (s.resOperand 5 (.reg .A))

/-- `RES 6,B` (R152). -/
def execRes_6_B (s : State) : Result := .next (s.resOperand 6 (.reg .B))

/-- `RES 6,C` (R152). -/
def execRes_6_C (s : State) : Result := .next (s.resOperand 6 (.reg .C))

/-- `RES 6,D` (R152). -/
def execRes_6_D (s : State) : Result := .next (s.resOperand 6 (.reg .D))

/-- `RES 6,E` (R152). -/
def execRes_6_E (s : State) : Result := .next (s.resOperand 6 (.reg .E))

/-- `RES 6,H` (R152). -/
def execRes_6_H (s : State) : Result := .next (s.resOperand 6 (.reg .H))

/-- `RES 6,L` (R152). -/
def execRes_6_L (s : State) : Result := .next (s.resOperand 6 (.reg .L))

/-- `RES 6,(HL)` (R152). -/
def execRes_6_mHL (s : State) : Result := .next (s.resOperand 6 .mHL)

/-- `RES 6,A` (R152). -/
def execRes_6_A (s : State) : Result := .next (s.resOperand 6 (.reg .A))

/-- `RES 7,B` (R152). -/
def execRes_7_B (s : State) : Result := .next (s.resOperand 7 (.reg .B))

/-- `RES 7,C` (R152). -/
def execRes_7_C (s : State) : Result := .next (s.resOperand 7 (.reg .C))

/-- `RES 7,D` (R152). -/
def execRes_7_D (s : State) : Result := .next (s.resOperand 7 (.reg .D))

/-- `RES 7,E` (R152). -/
def execRes_7_E (s : State) : Result := .next (s.resOperand 7 (.reg .E))

/-- `RES 7,H` (R152). -/
def execRes_7_H (s : State) : Result := .next (s.resOperand 7 (.reg .H))

/-- `RES 7,L` (R152). -/
def execRes_7_L (s : State) : Result := .next (s.resOperand 7 (.reg .L))

/-- `RES 7,(HL)` (R152). -/
def execRes_7_mHL (s : State) : Result := .next (s.resOperand 7 .mHL)

/-- `RES 7,A` (R152). -/
def execRes_7_A (s : State) : Result := .next (s.resOperand 7 (.reg .A))

/-- `SET 0,B` (R153). -/
def execSet_0_B (s : State) : Result := .next (s.setOperand 0 (.reg .B))

/-- `SET 0,C` (R153). -/
def execSet_0_C (s : State) : Result := .next (s.setOperand 0 (.reg .C))

/-- `SET 0,D` (R153). -/
def execSet_0_D (s : State) : Result := .next (s.setOperand 0 (.reg .D))

/-- `SET 0,E` (R153). -/
def execSet_0_E (s : State) : Result := .next (s.setOperand 0 (.reg .E))

/-- `SET 0,H` (R153). -/
def execSet_0_H (s : State) : Result := .next (s.setOperand 0 (.reg .H))

/-- `SET 0,L` (R153). -/
def execSet_0_L (s : State) : Result := .next (s.setOperand 0 (.reg .L))

/-- `SET 0,(HL)` (R153). -/
def execSet_0_mHL (s : State) : Result := .next (s.setOperand 0 .mHL)

/-- `SET 0,A` (R153). -/
def execSet_0_A (s : State) : Result := .next (s.setOperand 0 (.reg .A))

/-- `SET 1,B` (R153). -/
def execSet_1_B (s : State) : Result := .next (s.setOperand 1 (.reg .B))

/-- `SET 1,C` (R153). -/
def execSet_1_C (s : State) : Result := .next (s.setOperand 1 (.reg .C))

/-- `SET 1,D` (R153). -/
def execSet_1_D (s : State) : Result := .next (s.setOperand 1 (.reg .D))

/-- `SET 1,E` (R153). -/
def execSet_1_E (s : State) : Result := .next (s.setOperand 1 (.reg .E))

/-- `SET 1,H` (R153). -/
def execSet_1_H (s : State) : Result := .next (s.setOperand 1 (.reg .H))

/-- `SET 1,L` (R153). -/
def execSet_1_L (s : State) : Result := .next (s.setOperand 1 (.reg .L))

/-- `SET 1,(HL)` (R153). -/
def execSet_1_mHL (s : State) : Result := .next (s.setOperand 1 .mHL)

/-- `SET 1,A` (R153). -/
def execSet_1_A (s : State) : Result := .next (s.setOperand 1 (.reg .A))

/-- `SET 2,B` (R153). -/
def execSet_2_B (s : State) : Result := .next (s.setOperand 2 (.reg .B))

/-- `SET 2,C` (R153). -/
def execSet_2_C (s : State) : Result := .next (s.setOperand 2 (.reg .C))

/-- `SET 2,D` (R153). -/
def execSet_2_D (s : State) : Result := .next (s.setOperand 2 (.reg .D))

/-- `SET 2,E` (R153). -/
def execSet_2_E (s : State) : Result := .next (s.setOperand 2 (.reg .E))

/-- `SET 2,H` (R153). -/
def execSet_2_H (s : State) : Result := .next (s.setOperand 2 (.reg .H))

/-- `SET 2,L` (R153). -/
def execSet_2_L (s : State) : Result := .next (s.setOperand 2 (.reg .L))

/-- `SET 2,(HL)` (R153). -/
def execSet_2_mHL (s : State) : Result := .next (s.setOperand 2 .mHL)

/-- `SET 2,A` (R153). -/
def execSet_2_A (s : State) : Result := .next (s.setOperand 2 (.reg .A))

/-- `SET 3,B` (R153). -/
def execSet_3_B (s : State) : Result := .next (s.setOperand 3 (.reg .B))

/-- `SET 3,C` (R153). -/
def execSet_3_C (s : State) : Result := .next (s.setOperand 3 (.reg .C))

/-- `SET 3,D` (R153). -/
def execSet_3_D (s : State) : Result := .next (s.setOperand 3 (.reg .D))

/-- `SET 3,E` (R153). -/
def execSet_3_E (s : State) : Result := .next (s.setOperand 3 (.reg .E))

/-- `SET 3,H` (R153). -/
def execSet_3_H (s : State) : Result := .next (s.setOperand 3 (.reg .H))

/-- `SET 3,L` (R153). -/
def execSet_3_L (s : State) : Result := .next (s.setOperand 3 (.reg .L))

/-- `SET 3,(HL)` (R153). -/
def execSet_3_mHL (s : State) : Result := .next (s.setOperand 3 .mHL)

/-- `SET 3,A` (R153). -/
def execSet_3_A (s : State) : Result := .next (s.setOperand 3 (.reg .A))

/-- `SET 4,B` (R153). -/
def execSet_4_B (s : State) : Result := .next (s.setOperand 4 (.reg .B))

/-- `SET 4,C` (R153). -/
def execSet_4_C (s : State) : Result := .next (s.setOperand 4 (.reg .C))

/-- `SET 4,D` (R153). -/
def execSet_4_D (s : State) : Result := .next (s.setOperand 4 (.reg .D))

/-- `SET 4,E` (R153). -/
def execSet_4_E (s : State) : Result := .next (s.setOperand 4 (.reg .E))

/-- `SET 4,H` (R153). -/
def execSet_4_H (s : State) : Result := .next (s.setOperand 4 (.reg .H))

/-- `SET 4,L` (R153). -/
def execSet_4_L (s : State) : Result := .next (s.setOperand 4 (.reg .L))

/-- `SET 4,(HL)` (R153). -/
def execSet_4_mHL (s : State) : Result := .next (s.setOperand 4 .mHL)

/-- `SET 4,A` (R153). -/
def execSet_4_A (s : State) : Result := .next (s.setOperand 4 (.reg .A))

/-- `SET 5,B` (R153). -/
def execSet_5_B (s : State) : Result := .next (s.setOperand 5 (.reg .B))

/-- `SET 5,C` (R153). -/
def execSet_5_C (s : State) : Result := .next (s.setOperand 5 (.reg .C))

/-- `SET 5,D` (R153). -/
def execSet_5_D (s : State) : Result := .next (s.setOperand 5 (.reg .D))

/-- `SET 5,E` (R153). -/
def execSet_5_E (s : State) : Result := .next (s.setOperand 5 (.reg .E))

/-- `SET 5,H` (R153). -/
def execSet_5_H (s : State) : Result := .next (s.setOperand 5 (.reg .H))

/-- `SET 5,L` (R153). -/
def execSet_5_L (s : State) : Result := .next (s.setOperand 5 (.reg .L))

/-- `SET 5,(HL)` (R153). -/
def execSet_5_mHL (s : State) : Result := .next (s.setOperand 5 .mHL)

/-- `SET 5,A` (R153). -/
def execSet_5_A (s : State) : Result := .next (s.setOperand 5 (.reg .A))

/-- `SET 6,B` (R153). -/
def execSet_6_B (s : State) : Result := .next (s.setOperand 6 (.reg .B))

/-- `SET 6,C` (R153). -/
def execSet_6_C (s : State) : Result := .next (s.setOperand 6 (.reg .C))

/-- `SET 6,D` (R153). -/
def execSet_6_D (s : State) : Result := .next (s.setOperand 6 (.reg .D))

/-- `SET 6,E` (R153). -/
def execSet_6_E (s : State) : Result := .next (s.setOperand 6 (.reg .E))

/-- `SET 6,H` (R153). -/
def execSet_6_H (s : State) : Result := .next (s.setOperand 6 (.reg .H))

/-- `SET 6,L` (R153). -/
def execSet_6_L (s : State) : Result := .next (s.setOperand 6 (.reg .L))

/-- `SET 6,(HL)` (R153). -/
def execSet_6_mHL (s : State) : Result := .next (s.setOperand 6 .mHL)

/-- `SET 6,A` (R153). -/
def execSet_6_A (s : State) : Result := .next (s.setOperand 6 (.reg .A))

/-- `SET 7,B` (R153). -/
def execSet_7_B (s : State) : Result := .next (s.setOperand 7 (.reg .B))

/-- `SET 7,C` (R153). -/
def execSet_7_C (s : State) : Result := .next (s.setOperand 7 (.reg .C))

/-- `SET 7,D` (R153). -/
def execSet_7_D (s : State) : Result := .next (s.setOperand 7 (.reg .D))

/-- `SET 7,E` (R153). -/
def execSet_7_E (s : State) : Result := .next (s.setOperand 7 (.reg .E))

/-- `SET 7,H` (R153). -/
def execSet_7_H (s : State) : Result := .next (s.setOperand 7 (.reg .H))

/-- `SET 7,L` (R153). -/
def execSet_7_L (s : State) : Result := .next (s.setOperand 7 (.reg .L))

/-- `SET 7,(HL)` (R153). -/
def execSet_7_mHL (s : State) : Result := .next (s.setOperand 7 .mHL)

/-- `SET 7,A` (R153). -/
def execSet_7_A (s : State) : Result := .next (s.setOperand 7 (.reg .A))

end Sys2Proof.Machine
end

