-- ==== Sys2Proof/Machine/Control.lean ====
section
/-! DEFINITION. Control transfer (R154 to R167). -/

namespace Sys2Proof.Machine

/-! ### Shared operations -/

/-- `JP a16` (R157). -/
def State.jpAbs (s : State) (w : Word) : State := s.jumpTo w 16

/-- `JP cc,a16` (R158). -/
def State.jpCond (s : State) (cc : Cond) (w : Word) : State :=
  if s.cond cc then s.jumpTo w 16 else s.finish 3 12

/-- `JP HL` (R159): no memory is read at HL. -/
def State.jpHL (s : State) : State := s.jumpTo s.hl 4

/-- The target of a relative jump, `(pc0 + 2 + sext_16(e)) mod 65536` (R160). -/
def State.relTarget (s : State) (e : Byte) : Word := s.pc + 2#16 + sext16 e

/-- `JR e8` (R160). -/
def State.jrRel (s : State) (e : Byte) : State := s.jumpTo (s.relTarget e) 12

/-- `JR cc,e8` (R161). -/
def State.jrCond (s : State) (cc : Cond) (e : Byte) : State :=
  if s.cond cc then s.jumpTo (s.relTarget e) 12 else s.finish 2 8

/-- `CALL a16` (R162): the return address is that of the instruction after the CALL. -/
def State.callAbs (s : State) (w : Word) : State := (s.push16 (s.pc + 3#16)).jumpTo w 24

/-- `CALL cc,a16` (R163): not taken, the stack is not touched. -/
def State.callCond (s : State) (cc : Cond) (w : Word) : State :=
  if s.cond cc then (s.push16 (s.pc + 3#16)).jumpTo w 24 else s.finish 3 12

/-- `RET` (R164). -/
def State.ret (s : State) : State :=
  let r := s.pop16
  r.2.jumpTo r.1 16

/-- `RET cc` (R165): not taken, the stack is not touched. -/
def State.retCond (s : State) (cc : Cond) : State :=
  if s.cond cc then
    let r := s.pop16
    r.2.jumpTo r.1 20
  else s.finish 1 8

/-- The vector of RST, `8 * y` (R79, R167). -/
def rstVector (y : Fin 8) : Word := BitVec.ofNat 16 (8 * y.val)

/-- `RST 8y` (R167). -/
def State.rst (s : State) (y : Fin 8) : State := (s.push16 (s.pc + 1#16)).jumpTo (rstVector y) 16

/-! ### The meanings, one per row of the opcode table -/

/-- `JR e8` (R160). -/
def execJr_e8 (e : Byte) (s : State) : Result := .next (s.jrRel e)

/-- `JR NZ,e8` (R161). -/
def execJr_NZ_e8 (e : Byte) (s : State) : Result := .next (s.jrCond .NZ e)

/-- `JR Z,e8` (R161). -/
def execJr_Z_e8 (e : Byte) (s : State) : Result := .next (s.jrCond .Z e)

/-- `JR NC,e8` (R161). -/
def execJr_NC_e8 (e : Byte) (s : State) : Result := .next (s.jrCond .NC e)

/-- `JR C,e8` (R161). -/
def execJr_C_e8 (e : Byte) (s : State) : Result := .next (s.jrCond .C e)

/-- `RET NZ` (R165). -/
def execRet_NZ (s : State) : Result := .next (s.retCond .NZ)

/-- `JP NZ,a16` (R158). -/
def execJp_NZ_a16 (w : Word) (s : State) : Result := .next (s.jpCond .NZ w)

/-- `JP a16` (R157). -/
def execJp_a16 (w : Word) (s : State) : Result := .next (s.jpAbs w)

/-- `CALL NZ,a16` (R163). -/
def execCall_NZ_a16 (w : Word) (s : State) : Result := .next (s.callCond .NZ w)

/-- `RST 0x00` (R167). -/
def execRst_00 (s : State) : Result := .next (s.rst 0)

/-- `RET Z` (R165). -/
def execRet_Z (s : State) : Result := .next (s.retCond .Z)

/-- `RET` (R164). -/
def execRet (s : State) : Result := .next s.ret

/-- `JP Z,a16` (R158). -/
def execJp_Z_a16 (w : Word) (s : State) : Result := .next (s.jpCond .Z w)

/-- `CALL Z,a16` (R163). -/
def execCall_Z_a16 (w : Word) (s : State) : Result := .next (s.callCond .Z w)

/-- `CALL a16` (R162). -/
def execCall_a16 (w : Word) (s : State) : Result := .next (s.callAbs w)

/-- `RST 0x08` (R167). -/
def execRst_08 (s : State) : Result := .next (s.rst 1)

/-- `RET NC` (R165). -/
def execRet_NC (s : State) : Result := .next (s.retCond .NC)

/-- `JP NC,a16` (R158). -/
def execJp_NC_a16 (w : Word) (s : State) : Result := .next (s.jpCond .NC w)

/-- `CALL NC,a16` (R163). -/
def execCall_NC_a16 (w : Word) (s : State) : Result := .next (s.callCond .NC w)

/-- `RST 0x10` (R167). -/
def execRst_10 (s : State) : Result := .next (s.rst 2)

/-- `RET C` (R165). -/
def execRet_C (s : State) : Result := .next (s.retCond .C)

/-- `RETI` (R166). -/
def execReti (s : State) : Result := .next (s.returnFromInterrupt 16)

/-- `JP C,a16` (R158). -/
def execJp_C_a16 (w : Word) (s : State) : Result := .next (s.jpCond .C w)

/-- `CALL C,a16` (R163). -/
def execCall_C_a16 (w : Word) (s : State) : Result := .next (s.callCond .C w)

/-- `RST 0x18` (R167). -/
def execRst_18 (s : State) : Result := .next (s.rst 3)

/-- `RST 0x20` (R167). -/
def execRst_20 (s : State) : Result := .next (s.rst 4)

/-- `JP HL` (R159). -/
def execJp_HL (s : State) : Result := .next s.jpHL

/-- `RST 0x28` (R167). -/
def execRst_28 (s : State) : Result := .next (s.rst 5)

/-- `RST 0x30` (R167). -/
def execRst_30 (s : State) : Result := .next (s.rst 6)

/-- `RST 0x38` (R167). -/
def execRst_38 (s : State) : Result := .next (s.rst 7)

end Sys2Proof.Machine
end

