-- ==== Sys2Proof/Machine/Load.lean ====
section
/-! DEFINITION. Loads, stores and stack transfers (R93 to R114). -/

namespace Sys2Proof.Machine

/-! ### Shared operations -/

/-- `LD r,r'` (R93). -/
def State.ldRegReg (s : State) (d r : Reg8) : State := (s.setReg d (s.reg r)).finish 1 4

/-- `LD r,(HL)` (R94): the address is the old HL. -/
def State.ldRegMem (s : State) (d : Reg8) : State :=
  let m := s.busRead s.hl
  (m.2.setReg d m.1).finish 1 8

/-- `LD (HL),r` (R95). -/
def State.ldMemReg (s : State) (r : Reg8) : State := (s.busWrite s.hl (s.reg r)).finish 1 8

/-- `LD r,d8` (R96). -/
def State.ldRegImm (s : State) (d : Reg8) (v : Byte) : State := (s.setReg d v).finish 2 8

/-- `LD (HL),d8` (R97). -/
def State.ldMemImm (s : State) (v : Byte) : State := (s.busWrite s.hl v).finish 2 12

/-- A from the byte at `addr`, in one byte: `LD A,(BC)`, `LD A,(DE)` (R98), `LD A,(C)` (R107). -/
def State.ldAccMem (s : State) (addr : Word) : State :=
  let m := s.busRead addr
  (m.2.setReg .A m.1).finish 1 8

/-- A to the byte at `addr`, in one byte: `LD (BC),A`, `LD (DE),A` (R99), `LD (C),A` (R106). -/
def State.ldMemAcc (s : State) (addr : Word) : State := (s.busWrite addr s.a).finish 1 8

/-- `LD (HL+),A` (R100) and `LD (HL-),A` (R101): store at the old HL, then step HL. -/
def State.ldMemAccStep (s : State) (delta : Word) : State :=
  let addr := s.hl
  ((s.busWrite addr s.a).setHL (addr + delta)).finish 1 8

/-- `LD A,(HL+)` (R102) and `LD A,(HL-)` (R103): load from the old HL, then step HL. -/
def State.ldAccMemStep (s : State) (delta : Word) : State :=
  let addr := s.hl
  let m := s.busRead addr
  ((m.2.setReg .A m.1).setHL (addr + delta)).finish 1 8

/-- `LDH (a8),A` (R104). -/
def State.ldhStore (s : State) (n : Byte) : State := (s.busWrite (highPage n) s.a).finish 2 12

/-- `LDH A,(a8)` (R105). -/
def State.ldhLoad (s : State) (n : Byte) : State :=
  let m := s.busRead (highPage n)
  (m.2.setReg .A m.1).finish 2 12

/-- `LD (a16),A` (R108). -/
def State.ldAbsStore (s : State) (w : Word) : State := (s.busWrite w s.a).finish 3 16

/-- `LD A,(a16)` (R109). -/
def State.ldAbsLoad (s : State) (w : Word) : State :=
  let m := s.busRead w
  (m.2.setReg .A m.1).finish 3 16

/-- `LD rr,d16` (R110). -/
def State.ldPairImm (s : State) (rr : Reg16) (w : Word) : State := (s.setReg16 rr w).finish 3 12

/-- `LD (a16),SP` (R111). -/
def State.ldAbsSP (s : State) (w : Word) : State := (s.busWrite16 w s.sp).finish 3 20

/-- `LD SP,HL` (R112). -/
def State.ldSPHL (s : State) : State := (s.setReg16 .SP s.hl).finish 1 8

/-- `PUSH rr` (R113). -/
def State.pushPair (s : State) (rr : StackPair) : State := (s.push16 (s.stackPair rr)).finish 1 16

/-- `POP rr` (R114). -/
def State.popPair (s : State) (rr : StackPair) : State :=
  let r := s.pop16
  (r.2.setStackPair rr r.1).finish 1 12

/-! ### The meanings, one per row of the opcode table -/

/-- `LD BC,d16` (R110). -/
def execLd_BC_d16 (w : Word) (s : State) : Result := .next (s.ldPairImm .BC w)

/-- `LD (BC),A` (R99). -/
def execLd_mBC_A (s : State) : Result := .next (s.ldMemAcc s.bc)

/-- `LD B,d8` (R96). -/
def execLd_B_d8 (v : Byte) (s : State) : Result := .next (s.ldRegImm .B v)

/-- `LD (a16),SP` (R111). -/
def execLd_ma16_SP (w : Word) (s : State) : Result := .next (s.ldAbsSP w)

/-- `LD A,(BC)` (R98). -/
def execLd_A_mBC (s : State) : Result := .next (s.ldAccMem s.bc)

/-- `LD C,d8` (R96). -/
def execLd_C_d8 (v : Byte) (s : State) : Result := .next (s.ldRegImm .C v)

/-- `LD DE,d16` (R110). -/
def execLd_DE_d16 (w : Word) (s : State) : Result := .next (s.ldPairImm .DE w)

/-- `LD (DE),A` (R99). -/
def execLd_mDE_A (s : State) : Result := .next (s.ldMemAcc s.de)

/-- `LD D,d8` (R96). -/
def execLd_D_d8 (v : Byte) (s : State) : Result := .next (s.ldRegImm .D v)

/-- `LD A,(DE)` (R98). -/
def execLd_A_mDE (s : State) : Result := .next (s.ldAccMem s.de)

/-- `LD E,d8` (R96). -/
def execLd_E_d8 (v : Byte) (s : State) : Result := .next (s.ldRegImm .E v)

/-- `LD HL,d16` (R110). -/
def execLd_HL_d16 (w : Word) (s : State) : Result := .next (s.ldPairImm .HL w)

/-- `LD (HL+),A` (R100). -/
def execLd_mHLinc_A (s : State) : Result := .next (s.ldMemAccStep 1#16)

/-- `LD H,d8` (R96). -/
def execLd_H_d8 (v : Byte) (s : State) : Result := .next (s.ldRegImm .H v)

/-- `LD A,(HL+)` (R102). -/
def execLd_A_mHLinc (s : State) : Result := .next (s.ldAccMemStep 1#16)

/-- `LD L,d8` (R96). -/
def execLd_L_d8 (v : Byte) (s : State) : Result := .next (s.ldRegImm .L v)

/-- `LD SP,d16` (R110). -/
def execLd_SP_d16 (w : Word) (s : State) : Result := .next (s.ldPairImm .SP w)

/-- `LD (HL-),A` (R101). -/
def execLd_mHLdec_A (s : State) : Result := .next (s.ldMemAccStep (-1#16))

/-- `LD (HL),d8` (R97). -/
def execLd_mHL_d8 (v : Byte) (s : State) : Result := .next (s.ldMemImm v)

/-- `LD A,(HL-)` (R103). -/
def execLd_A_mHLdec (s : State) : Result := .next (s.ldAccMemStep (-1#16))

/-- `LD A,d8` (R96). -/
def execLd_A_d8 (v : Byte) (s : State) : Result := .next (s.ldRegImm .A v)

/-- `LD B,B` (R93). -/
def execLd_B_B (s : State) : Result := .next (s.ldRegReg .B .B)

/-- `LD B,C` (R93). -/
def execLd_B_C (s : State) : Result := .next (s.ldRegReg .B .C)

/-- `LD B,D` (R93). -/
def execLd_B_D (s : State) : Result := .next (s.ldRegReg .B .D)

/-- `LD B,E` (R93). -/
def execLd_B_E (s : State) : Result := .next (s.ldRegReg .B .E)

/-- `LD B,H` (R93). -/
def execLd_B_H (s : State) : Result := .next (s.ldRegReg .B .H)

/-- `LD B,L` (R93). -/
def execLd_B_L (s : State) : Result := .next (s.ldRegReg .B .L)

/-- `LD B,(HL)` (R94). -/
def execLd_B_mHL (s : State) : Result := .next (s.ldRegMem .B)

/-- `LD B,A` (R93). -/
def execLd_B_A (s : State) : Result := .next (s.ldRegReg .B .A)

/-- `LD C,B` (R93). -/
def execLd_C_B (s : State) : Result := .next (s.ldRegReg .C .B)

/-- `LD C,C` (R93). -/
def execLd_C_C (s : State) : Result := .next (s.ldRegReg .C .C)

/-- `LD C,D` (R93). -/
def execLd_C_D (s : State) : Result := .next (s.ldRegReg .C .D)

/-- `LD C,E` (R93). -/
def execLd_C_E (s : State) : Result := .next (s.ldRegReg .C .E)

/-- `LD C,H` (R93). -/
def execLd_C_H (s : State) : Result := .next (s.ldRegReg .C .H)

/-- `LD C,L` (R93). -/
def execLd_C_L (s : State) : Result := .next (s.ldRegReg .C .L)

/-- `LD C,(HL)` (R94). -/
def execLd_C_mHL (s : State) : Result := .next (s.ldRegMem .C)

/-- `LD C,A` (R93). -/
def execLd_C_A (s : State) : Result := .next (s.ldRegReg .C .A)

/-- `LD D,B` (R93). -/
def execLd_D_B (s : State) : Result := .next (s.ldRegReg .D .B)

/-- `LD D,C` (R93). -/
def execLd_D_C (s : State) : Result := .next (s.ldRegReg .D .C)

/-- `LD D,D` (R93). -/
def execLd_D_D (s : State) : Result := .next (s.ldRegReg .D .D)

/-- `LD D,E` (R93). -/
def execLd_D_E (s : State) : Result := .next (s.ldRegReg .D .E)

/-- `LD D,H` (R93). -/
def execLd_D_H (s : State) : Result := .next (s.ldRegReg .D .H)

/-- `LD D,L` (R93). -/
def execLd_D_L (s : State) : Result := .next (s.ldRegReg .D .L)

/-- `LD D,(HL)` (R94). -/
def execLd_D_mHL (s : State) : Result := .next (s.ldRegMem .D)

/-- `LD D,A` (R93). -/
def execLd_D_A (s : State) : Result := .next (s.ldRegReg .D .A)

/-- `LD E,B` (R93). -/
def execLd_E_B (s : State) : Result := .next (s.ldRegReg .E .B)

/-- `LD E,C` (R93). -/
def execLd_E_C (s : State) : Result := .next (s.ldRegReg .E .C)

/-- `LD E,D` (R93). -/
def execLd_E_D (s : State) : Result := .next (s.ldRegReg .E .D)

/-- `LD E,E` (R93). -/
def execLd_E_E (s : State) : Result := .next (s.ldRegReg .E .E)

/-- `LD E,H` (R93). -/
def execLd_E_H (s : State) : Result := .next (s.ldRegReg .E .H)

/-- `LD E,L` (R93). -/
def execLd_E_L (s : State) : Result := .next (s.ldRegReg .E .L)

/-- `LD E,(HL)` (R94). -/
def execLd_E_mHL (s : State) : Result := .next (s.ldRegMem .E)

/-- `LD E,A` (R93). -/
def execLd_E_A (s : State) : Result := .next (s.ldRegReg .E .A)

/-- `LD H,B` (R93). -/
def execLd_H_B (s : State) : Result := .next (s.ldRegReg .H .B)

/-- `LD H,C` (R93). -/
def execLd_H_C (s : State) : Result := .next (s.ldRegReg .H .C)

/-- `LD H,D` (R93). -/
def execLd_H_D (s : State) : Result := .next (s.ldRegReg .H .D)

/-- `LD H,E` (R93). -/
def execLd_H_E (s : State) : Result := .next (s.ldRegReg .H .E)

/-- `LD H,H` (R93). -/
def execLd_H_H (s : State) : Result := .next (s.ldRegReg .H .H)

/-- `LD H,L` (R93). -/
def execLd_H_L (s : State) : Result := .next (s.ldRegReg .H .L)

/-- `LD H,(HL)` (R94). -/
def execLd_H_mHL (s : State) : Result := .next (s.ldRegMem .H)

/-- `LD H,A` (R93). -/
def execLd_H_A (s : State) : Result := .next (s.ldRegReg .H .A)

/-- `LD L,B` (R93). -/
def execLd_L_B (s : State) : Result := .next (s.ldRegReg .L .B)

/-- `LD L,C` (R93). -/
def execLd_L_C (s : State) : Result := .next (s.ldRegReg .L .C)

/-- `LD L,D` (R93). -/
def execLd_L_D (s : State) : Result := .next (s.ldRegReg .L .D)

/-- `LD L,E` (R93). -/
def execLd_L_E (s : State) : Result := .next (s.ldRegReg .L .E)

/-- `LD L,H` (R93). -/
def execLd_L_H (s : State) : Result := .next (s.ldRegReg .L .H)

/-- `LD L,L` (R93). -/
def execLd_L_L (s : State) : Result := .next (s.ldRegReg .L .L)

/-- `LD L,(HL)` (R94). -/
def execLd_L_mHL (s : State) : Result := .next (s.ldRegMem .L)

/-- `LD L,A` (R93). -/
def execLd_L_A (s : State) : Result := .next (s.ldRegReg .L .A)

/-- `LD (HL),B` (R95). -/
def execLd_mHL_B (s : State) : Result := .next (s.ldMemReg .B)

/-- `LD (HL),C` (R95). -/
def execLd_mHL_C (s : State) : Result := .next (s.ldMemReg .C)

/-- `LD (HL),D` (R95). -/
def execLd_mHL_D (s : State) : Result := .next (s.ldMemReg .D)

/-- `LD (HL),E` (R95). -/
def execLd_mHL_E (s : State) : Result := .next (s.ldMemReg .E)

/-- `LD (HL),H` (R95). -/
def execLd_mHL_H (s : State) : Result := .next (s.ldMemReg .H)

/-- `LD (HL),L` (R95). -/
def execLd_mHL_L (s : State) : Result := .next (s.ldMemReg .L)

/-- `LD (HL),A` (R95). -/
def execLd_mHL_A (s : State) : Result := .next (s.ldMemReg .A)

/-- `LD A,B` (R93). -/
def execLd_A_B (s : State) : Result := .next (s.ldRegReg .A .B)

/-- `LD A,C` (R93). -/
def execLd_A_C (s : State) : Result := .next (s.ldRegReg .A .C)

/-- `LD A,D` (R93). -/
def execLd_A_D (s : State) : Result := .next (s.ldRegReg .A .D)

/-- `LD A,E` (R93). -/
def execLd_A_E (s : State) : Result := .next (s.ldRegReg .A .E)

/-- `LD A,H` (R93). -/
def execLd_A_H (s : State) : Result := .next (s.ldRegReg .A .H)

/-- `LD A,L` (R93). -/
def execLd_A_L (s : State) : Result := .next (s.ldRegReg .A .L)

/-- `LD A,(HL)` (R94). -/
def execLd_A_mHL (s : State) : Result := .next (s.ldRegMem .A)

/-- `LD A,A` (R93). -/
def execLd_A_A (s : State) : Result := .next (s.ldRegReg .A .A)

/-- `POP BC` (R114). -/
def execPop_BC (s : State) : Result := .next (s.popPair .BC)

/-- `PUSH BC` (R113). -/
def execPush_BC (s : State) : Result := .next (s.pushPair .BC)

/-- `POP DE` (R114). -/
def execPop_DE (s : State) : Result := .next (s.popPair .DE)

/-- `PUSH DE` (R113). -/
def execPush_DE (s : State) : Result := .next (s.pushPair .DE)

/-- `LDH (a8),A` (R104). -/
def execLdh_ma8_A (n : Byte) (s : State) : Result := .next (s.ldhStore n)

/-- `POP HL` (R114). -/
def execPop_HL (s : State) : Result := .next (s.popPair .HL)

/-- `LD (C),A` (R106). -/
def execLd_mC_A (s : State) : Result := .next (s.ldMemAcc (highPage s.c))

/-- `PUSH HL` (R113). -/
def execPush_HL (s : State) : Result := .next (s.pushPair .HL)

/-- `LD (a16),A` (R108). -/
def execLd_ma16_A (w : Word) (s : State) : Result := .next (s.ldAbsStore w)

/-- `LDH A,(a8)` (R105). -/
def execLdh_A_ma8 (n : Byte) (s : State) : Result := .next (s.ldhLoad n)

/-- `POP AF` (R114). -/
def execPop_AF (s : State) : Result := .next (s.popPair .AF)

/-- `LD A,(C)` (R107). -/
def execLd_A_mC (s : State) : Result := .next (s.ldAccMem (highPage s.c))

/-- `PUSH AF` (R113). -/
def execPush_AF (s : State) : Result := .next (s.pushPair .AF)

/-- `LD SP,HL` (R112). -/
def execLd_SP_HL (s : State) : Result := .next s.ldSPHL

/-- `LD A,(a16)` (R109). -/
def execLd_A_ma16 (w : Word) (s : State) : Result := .next (s.ldAbsLoad w)

end Sys2Proof.Machine
end

