-- ==== Sys2Proof/Machine/Rotate.lean ====
section
/-! DEFINITION. Rotates, shifts and the nibble swap (R138 to R150). -/

namespace Sys2Proof.Machine

/-! ### Shared operations -/

/-- RLCA, RLA, RRCA and RRA (R138 to R141): A rotated, Z cleared whatever the result. -/
def State.rotAcc (s : State) (op : RotOp) : State :=
  let r := rotResult op s.a s.flags.c
  { s with a := r.1, flags := accRotFlags r }.finish 1 4

/-- A CB-prefixed rotate or shift of the operand (R142 to R150): 8 cycles, 16 for the byte at HL. -/
def State.rotOperand (s : State) (op : RotOp) (o : Operand8) : State :=
  let m := s.readOperand o
  let r := rotResult op m.1 s.flags.c
  ({ m.2 with flags := rotFlags r }.writeOperand o r.1).finish 2 (match o with | .reg _ => 8 | .mHL => 16)

/-! ### The meanings, one per row of the opcode table -/

/-- `RLCA` (R138). -/
def execRlca (s : State) : Result := .next (s.rotAcc .rlc)

/-- `RRCA` (R140). -/
def execRrca (s : State) : Result := .next (s.rotAcc .rrc)

/-- `RLA` (R139). -/
def execRla (s : State) : Result := .next (s.rotAcc .rl)

/-- `RRA` (R141). -/
def execRra (s : State) : Result := .next (s.rotAcc .rr)

/-- `RLC B` (R143). -/
def execRlc_B (s : State) : Result := .next (s.rotOperand .rlc (.reg .B))

/-- `RLC C` (R143). -/
def execRlc_C (s : State) : Result := .next (s.rotOperand .rlc (.reg .C))

/-- `RLC D` (R143). -/
def execRlc_D (s : State) : Result := .next (s.rotOperand .rlc (.reg .D))

/-- `RLC E` (R143). -/
def execRlc_E (s : State) : Result := .next (s.rotOperand .rlc (.reg .E))

/-- `RLC H` (R143). -/
def execRlc_H (s : State) : Result := .next (s.rotOperand .rlc (.reg .H))

/-- `RLC L` (R143). -/
def execRlc_L (s : State) : Result := .next (s.rotOperand .rlc (.reg .L))

/-- `RLC (HL)` (R143). -/
def execRlc_mHL (s : State) : Result := .next (s.rotOperand .rlc .mHL)

/-- `RLC A` (R143). -/
def execRlc_A (s : State) : Result := .next (s.rotOperand .rlc (.reg .A))

/-- `RRC B` (R144). -/
def execRrc_B (s : State) : Result := .next (s.rotOperand .rrc (.reg .B))

/-- `RRC C` (R144). -/
def execRrc_C (s : State) : Result := .next (s.rotOperand .rrc (.reg .C))

/-- `RRC D` (R144). -/
def execRrc_D (s : State) : Result := .next (s.rotOperand .rrc (.reg .D))

/-- `RRC E` (R144). -/
def execRrc_E (s : State) : Result := .next (s.rotOperand .rrc (.reg .E))

/-- `RRC H` (R144). -/
def execRrc_H (s : State) : Result := .next (s.rotOperand .rrc (.reg .H))

/-- `RRC L` (R144). -/
def execRrc_L (s : State) : Result := .next (s.rotOperand .rrc (.reg .L))

/-- `RRC (HL)` (R144). -/
def execRrc_mHL (s : State) : Result := .next (s.rotOperand .rrc .mHL)

/-- `RRC A` (R144). -/
def execRrc_A (s : State) : Result := .next (s.rotOperand .rrc (.reg .A))

/-- `RL B` (R145). -/
def execRl_B (s : State) : Result := .next (s.rotOperand .rl (.reg .B))

/-- `RL C` (R145). -/
def execRl_C (s : State) : Result := .next (s.rotOperand .rl (.reg .C))

/-- `RL D` (R145). -/
def execRl_D (s : State) : Result := .next (s.rotOperand .rl (.reg .D))

/-- `RL E` (R145). -/
def execRl_E (s : State) : Result := .next (s.rotOperand .rl (.reg .E))

/-- `RL H` (R145). -/
def execRl_H (s : State) : Result := .next (s.rotOperand .rl (.reg .H))

/-- `RL L` (R145). -/
def execRl_L (s : State) : Result := .next (s.rotOperand .rl (.reg .L))

/-- `RL (HL)` (R145). -/
def execRl_mHL (s : State) : Result := .next (s.rotOperand .rl .mHL)

/-- `RL A` (R145). -/
def execRl_A (s : State) : Result := .next (s.rotOperand .rl (.reg .A))

/-- `RR B` (R146). -/
def execRr_B (s : State) : Result := .next (s.rotOperand .rr (.reg .B))

/-- `RR C` (R146). -/
def execRr_C (s : State) : Result := .next (s.rotOperand .rr (.reg .C))

/-- `RR D` (R146). -/
def execRr_D (s : State) : Result := .next (s.rotOperand .rr (.reg .D))

/-- `RR E` (R146). -/
def execRr_E (s : State) : Result := .next (s.rotOperand .rr (.reg .E))

/-- `RR H` (R146). -/
def execRr_H (s : State) : Result := .next (s.rotOperand .rr (.reg .H))

/-- `RR L` (R146). -/
def execRr_L (s : State) : Result := .next (s.rotOperand .rr (.reg .L))

/-- `RR (HL)` (R146). -/
def execRr_mHL (s : State) : Result := .next (s.rotOperand .rr .mHL)

/-- `RR A` (R146). -/
def execRr_A (s : State) : Result := .next (s.rotOperand .rr (.reg .A))

/-- `SLA B` (R147). -/
def execSla_B (s : State) : Result := .next (s.rotOperand .sla (.reg .B))

/-- `SLA C` (R147). -/
def execSla_C (s : State) : Result := .next (s.rotOperand .sla (.reg .C))

/-- `SLA D` (R147). -/
def execSla_D (s : State) : Result := .next (s.rotOperand .sla (.reg .D))

/-- `SLA E` (R147). -/
def execSla_E (s : State) : Result := .next (s.rotOperand .sla (.reg .E))

/-- `SLA H` (R147). -/
def execSla_H (s : State) : Result := .next (s.rotOperand .sla (.reg .H))

/-- `SLA L` (R147). -/
def execSla_L (s : State) : Result := .next (s.rotOperand .sla (.reg .L))

/-- `SLA (HL)` (R147). -/
def execSla_mHL (s : State) : Result := .next (s.rotOperand .sla .mHL)

/-- `SLA A` (R147). -/
def execSla_A (s : State) : Result := .next (s.rotOperand .sla (.reg .A))

/-- `SRA B` (R148). -/
def execSra_B (s : State) : Result := .next (s.rotOperand .sra (.reg .B))

/-- `SRA C` (R148). -/
def execSra_C (s : State) : Result := .next (s.rotOperand .sra (.reg .C))

/-- `SRA D` (R148). -/
def execSra_D (s : State) : Result := .next (s.rotOperand .sra (.reg .D))

/-- `SRA E` (R148). -/
def execSra_E (s : State) : Result := .next (s.rotOperand .sra (.reg .E))

/-- `SRA H` (R148). -/
def execSra_H (s : State) : Result := .next (s.rotOperand .sra (.reg .H))

/-- `SRA L` (R148). -/
def execSra_L (s : State) : Result := .next (s.rotOperand .sra (.reg .L))

/-- `SRA (HL)` (R148). -/
def execSra_mHL (s : State) : Result := .next (s.rotOperand .sra .mHL)

/-- `SRA A` (R148). -/
def execSra_A (s : State) : Result := .next (s.rotOperand .sra (.reg .A))

/-- `SWAP B` (R149). -/
def execSwap_B (s : State) : Result := .next (s.rotOperand .swap (.reg .B))

/-- `SWAP C` (R149). -/
def execSwap_C (s : State) : Result := .next (s.rotOperand .swap (.reg .C))

/-- `SWAP D` (R149). -/
def execSwap_D (s : State) : Result := .next (s.rotOperand .swap (.reg .D))

/-- `SWAP E` (R149). -/
def execSwap_E (s : State) : Result := .next (s.rotOperand .swap (.reg .E))

/-- `SWAP H` (R149). -/
def execSwap_H (s : State) : Result := .next (s.rotOperand .swap (.reg .H))

/-- `SWAP L` (R149). -/
def execSwap_L (s : State) : Result := .next (s.rotOperand .swap (.reg .L))

/-- `SWAP (HL)` (R149). -/
def execSwap_mHL (s : State) : Result := .next (s.rotOperand .swap .mHL)

/-- `SWAP A` (R149). -/
def execSwap_A (s : State) : Result := .next (s.rotOperand .swap (.reg .A))

/-- `SRL B` (R150). -/
def execSrl_B (s : State) : Result := .next (s.rotOperand .srl (.reg .B))

/-- `SRL C` (R150). -/
def execSrl_C (s : State) : Result := .next (s.rotOperand .srl (.reg .C))

/-- `SRL D` (R150). -/
def execSrl_D (s : State) : Result := .next (s.rotOperand .srl (.reg .D))

/-- `SRL E` (R150). -/
def execSrl_E (s : State) : Result := .next (s.rotOperand .srl (.reg .E))

/-- `SRL H` (R150). -/
def execSrl_H (s : State) : Result := .next (s.rotOperand .srl (.reg .H))

/-- `SRL L` (R150). -/
def execSrl_L (s : State) : Result := .next (s.rotOperand .srl (.reg .L))

/-- `SRL (HL)` (R150). -/
def execSrl_mHL (s : State) : Result := .next (s.rotOperand .srl .mHL)

/-- `SRL A` (R150). -/
def execSrl_A (s : State) : Result := .next (s.rotOperand .srl (.reg .A))

end Sys2Proof.Machine
end

