-- ==== Sys2Proof/WellFormed.lean ====
section
/-! DEFINITION. Which terms of `Instr` are instructions of the SM83. Every operand is typed by its
field's width, so the one check is that the term is not the bare 0xCB prefix row, which is "Not an
instruction" (opcode table; R86): the instruction is the CB row that the second byte selects. -/

namespace Sys2Proof

/-- The instruction is one a decoder can give: any row but the bare prefix (R84, R86, R87). The eleven
undefined opcodes (R89) are among them; their meaning is the fault of R180. -/
def Instr.wellFormed (i : Instr) : Bool :=
  match i with
  | .prefix_CB _ => false
  | _ => true

/-- The row is one of the eleven undefined opcodes of R89. -/
def Instr.isUndefined (i : Instr) : Bool :=
  match i with
  | .undefined_D3 => true
  | .undefined_DB => true
  | .undefined_DD => true
  | .undefined_E3 => true
  | .undefined_E4 => true
  | .undefined_EB => true
  | .undefined_EC => true
  | .undefined_ED => true
  | .undefined_F4 => true
  | .undefined_FC => true
  | .undefined_FD => true
  | _ => false

end Sys2Proof
end

