-- ==== Sys2Proof/Decode.lean ====
section
/-! DEFINITION. The decoder, total on any bytes, the encoder written from the other copy of the
encoding (one opcode per row of spec/opcode_table.json), and the two words the host's table words are
read with. The unprefixed page is the map of R84, cell by cell; the CB page is decoded by the fields of
R78 and R87. -/

namespace Sys2Proof

/-! ### Instruction families, by their operand codes

Each function takes the operands a family's fields select to the row of the opcode table. -/

/-- `LD r,r'` (R93). -/
def instrLdRR : Reg8 → Reg8 → Instr
  | .B, .B => .ld_B_B
  | .B, .C => .ld_B_C
  | .B, .D => .ld_B_D
  | .B, .E => .ld_B_E
  | .B, .H => .ld_B_H
  | .B, .L => .ld_B_L
  | .B, .A => .ld_B_A
  | .C, .B => .ld_C_B
  | .C, .C => .ld_C_C
  | .C, .D => .ld_C_D
  | .C, .E => .ld_C_E
  | .C, .H => .ld_C_H
  | .C, .L => .ld_C_L
  | .C, .A => .ld_C_A
  | .D, .B => .ld_D_B
  | .D, .C => .ld_D_C
  | .D, .D => .ld_D_D
  | .D, .E => .ld_D_E
  | .D, .H => .ld_D_H
  | .D, .L => .ld_D_L
  | .D, .A => .ld_D_A
  | .E, .B => .ld_E_B
  | .E, .C => .ld_E_C
  | .E, .D => .ld_E_D
  | .E, .E => .ld_E_E
  | .E, .H => .ld_E_H
  | .E, .L => .ld_E_L
  | .E, .A => .ld_E_A
  | .H, .B => .ld_H_B
  | .H, .C => .ld_H_C
  | .H, .D => .ld_H_D
  | .H, .E => .ld_H_E
  | .H, .H => .ld_H_H
  | .H, .L => .ld_H_L
  | .H, .A => .ld_H_A
  | .L, .B => .ld_L_B
  | .L, .C => .ld_L_C
  | .L, .D => .ld_L_D
  | .L, .E => .ld_L_E
  | .L, .H => .ld_L_H
  | .L, .L => .ld_L_L
  | .L, .A => .ld_L_A
  | .A, .B => .ld_A_B
  | .A, .C => .ld_A_C
  | .A, .D => .ld_A_D
  | .A, .E => .ld_A_E
  | .A, .H => .ld_A_H
  | .A, .L => .ld_A_L
  | .A, .A => .ld_A_A

/-- `LD r,(HL)` (R94). -/
def instrLdRM : Reg8 → Instr
  | .B => .ld_B_mHL
  | .C => .ld_C_mHL
  | .D => .ld_D_mHL
  | .E => .ld_E_mHL
  | .H => .ld_H_mHL
  | .L => .ld_L_mHL
  | .A => .ld_A_mHL

/-- `LD (HL),r` (R95). -/
def instrLdMR : Reg8 → Instr
  | .B => .ld_mHL_B
  | .C => .ld_mHL_C
  | .D => .ld_mHL_D
  | .E => .ld_mHL_E
  | .H => .ld_mHL_H
  | .L => .ld_mHL_L
  | .A => .ld_mHL_A

/-- `LD r,d8` (R96). -/
def instrLdRD8 : Reg8 → Byte → Instr
  | .B, v => .ld_B_d8 v
  | .C, v => .ld_C_d8 v
  | .D, v => .ld_D_d8 v
  | .E, v => .ld_E_d8 v
  | .H, v => .ld_H_d8 v
  | .L, v => .ld_L_d8 v
  | .A, v => .ld_A_d8 v

/-- `LD rr,d16` (R110). -/
def instrLdRrD16 : Reg16 → Word → Instr
  | .BC, w => .ld_BC_d16 w
  | .DE, w => .ld_DE_d16 w
  | .HL, w => .ld_HL_d16 w
  | .SP, w => .ld_SP_d16 w

/-- `PUSH rr` (R113). -/
def instrPush : StackPair → Instr
  | .BC => .push_BC
  | .DE => .push_DE
  | .HL => .push_HL
  | .AF => .push_AF

/-- `POP rr` (R114). -/
def instrPop : StackPair → Instr
  | .BC => .pop_BC
  | .DE => .pop_DE
  | .HL => .pop_HL
  | .AF => .pop_AF

/-- The ALU operations on a register or the byte at HL, `0b10yyyzzz` (R116). -/
def instrAlu : AluOp → Operand8 → Instr
  | .add, .reg .B => .add_A_B
  | .add, .reg .C => .add_A_C
  | .add, .reg .D => .add_A_D
  | .add, .reg .E => .add_A_E
  | .add, .reg .H => .add_A_H
  | .add, .reg .L => .add_A_L
  | .add, .mHL => .add_A_mHL
  | .add, .reg .A => .add_A_A
  | .adc, .reg .B => .adc_A_B
  | .adc, .reg .C => .adc_A_C
  | .adc, .reg .D => .adc_A_D
  | .adc, .reg .E => .adc_A_E
  | .adc, .reg .H => .adc_A_H
  | .adc, .reg .L => .adc_A_L
  | .adc, .mHL => .adc_A_mHL
  | .adc, .reg .A => .adc_A_A
  | .sub, .reg .B => .sub_B
  | .sub, .reg .C => .sub_C
  | .sub, .reg .D => .sub_D
  | .sub, .reg .E => .sub_E
  | .sub, .reg .H => .sub_H
  | .sub, .reg .L => .sub_L
  | .sub, .mHL => .sub_mHL
  | .sub, .reg .A => .sub_A
  | .sbc, .reg .B => .sbc_A_B
  | .sbc, .reg .C => .sbc_A_C
  | .sbc, .reg .D => .sbc_A_D
  | .sbc, .reg .E => .sbc_A_E
  | .sbc, .reg .H => .sbc_A_H
  | .sbc, .reg .L => .sbc_A_L
  | .sbc, .mHL => .sbc_A_mHL
  | .sbc, .reg .A => .sbc_A_A
  | .and, .reg .B => .and_B
  | .and, .reg .C => .and_C
  | .and, .reg .D => .and_D
  | .and, .reg .E => .and_E
  | .and, .reg .H => .and_H
  | .and, .reg .L => .and_L
  | .and, .mHL => .and_mHL
  | .and, .reg .A => .and_A
  | .xor, .reg .B => .xor_B
  | .xor, .reg .C => .xor_C
  | .xor, .reg .D => .xor_D
  | .xor, .reg .E => .xor_E
  | .xor, .reg .H => .xor_H
  | .xor, .reg .L => .xor_L
  | .xor, .mHL => .xor_mHL
  | .xor, .reg .A => .xor_A
  | .or, .reg .B => .or_B
  | .or, .reg .C => .or_C
  | .or, .reg .D => .or_D
  | .or, .reg .E => .or_E
  | .or, .reg .H => .or_H
  | .or, .reg .L => .or_L
  | .or, .mHL => .or_mHL
  | .or, .reg .A => .or_A
  | .cp, .reg .B => .cp_B
  | .cp, .reg .C => .cp_C
  | .cp, .reg .D => .cp_D
  | .cp, .reg .E => .cp_E
  | .cp, .reg .H => .cp_H
  | .cp, .reg .L => .cp_L
  | .cp, .mHL => .cp_mHL
  | .cp, .reg .A => .cp_A

/-- The ALU operations on an immediate, `0b11yyy110` (R116). -/
def instrAluD8 : AluOp → Byte → Instr
  | .add, v => .add_A_d8 v
  | .adc, v => .adc_A_d8 v
  | .sub, v => .sub_d8 v
  | .sbc, v => .sbc_A_d8 v
  | .and, v => .and_d8 v
  | .xor, v => .xor_d8 v
  | .or, v => .or_d8 v
  | .cp, v => .cp_d8 v

/-- `INC r` (R125) and `INC (HL)` (R126). -/
def instrInc : Operand8 → Instr
  | .reg .B => .inc_B
  | .reg .C => .inc_C
  | .reg .D => .inc_D
  | .reg .E => .inc_E
  | .reg .H => .inc_H
  | .reg .L => .inc_L
  | .mHL => .inc_mHL
  | .reg .A => .inc_A

/-- `DEC r` (R127) and `DEC (HL)` (R128). -/
def instrDec : Operand8 → Instr
  | .reg .B => .dec_B
  | .reg .C => .dec_C
  | .reg .D => .dec_D
  | .reg .E => .dec_E
  | .reg .H => .dec_H
  | .reg .L => .dec_L
  | .mHL => .dec_mHL
  | .reg .A => .dec_A

/-- `ADD HL,rr` (R133). -/
def instrAddHL : Reg16 → Instr
  | .BC => .add_HL_BC
  | .DE => .add_HL_DE
  | .HL => .add_HL_HL
  | .SP => .add_HL_SP

/-- `INC rr` (R134). -/
def instrIncRr : Reg16 → Instr
  | .BC => .inc_BC
  | .DE => .inc_DE
  | .HL => .inc_HL
  | .SP => .inc_SP

/-- `DEC rr` (R135). -/
def instrDecRr : Reg16 → Instr
  | .BC => .dec_BC
  | .DE => .dec_DE
  | .HL => .dec_HL
  | .SP => .dec_SP

/-- The CB-prefixed rotates and shifts, `0b00yyyzzz` (R143 to R150). -/
def instrRot : RotOp → Operand8 → Instr
  | .rlc, .reg .B => .rlc_B
  | .rlc, .reg .C => .rlc_C
  | .rlc, .reg .D => .rlc_D
  | .rlc, .reg .E => .rlc_E
  | .rlc, .reg .H => .rlc_H
  | .rlc, .reg .L => .rlc_L
  | .rlc, .mHL => .rlc_mHL
  | .rlc, .reg .A => .rlc_A
  | .rrc, .reg .B => .rrc_B
  | .rrc, .reg .C => .rrc_C
  | .rrc, .reg .D => .rrc_D
  | .rrc, .reg .E => .rrc_E
  | .rrc, .reg .H => .rrc_H
  | .rrc, .reg .L => .rrc_L
  | .rrc, .mHL => .rrc_mHL
  | .rrc, .reg .A => .rrc_A
  | .rl, .reg .B => .rl_B
  | .rl, .reg .C => .rl_C
  | .rl, .reg .D => .rl_D
  | .rl, .reg .E => .rl_E
  | .rl, .reg .H => .rl_H
  | .rl, .reg .L => .rl_L
  | .rl, .mHL => .rl_mHL
  | .rl, .reg .A => .rl_A
  | .rr, .reg .B => .rr_B
  | .rr, .reg .C => .rr_C
  | .rr, .reg .D => .rr_D
  | .rr, .reg .E => .rr_E
  | .rr, .reg .H => .rr_H
  | .rr, .reg .L => .rr_L
  | .rr, .mHL => .rr_mHL
  | .rr, .reg .A => .rr_A
  | .sla, .reg .B => .sla_B
  | .sla, .reg .C => .sla_C
  | .sla, .reg .D => .sla_D
  | .sla, .reg .E => .sla_E
  | .sla, .reg .H => .sla_H
  | .sla, .reg .L => .sla_L
  | .sla, .mHL => .sla_mHL
  | .sla, .reg .A => .sla_A
  | .sra, .reg .B => .sra_B
  | .sra, .reg .C => .sra_C
  | .sra, .reg .D => .sra_D
  | .sra, .reg .E => .sra_E
  | .sra, .reg .H => .sra_H
  | .sra, .reg .L => .sra_L
  | .sra, .mHL => .sra_mHL
  | .sra, .reg .A => .sra_A
  | .swap, .reg .B => .swap_B
  | .swap, .reg .C => .swap_C
  | .swap, .reg .D => .swap_D
  | .swap, .reg .E => .swap_E
  | .swap, .reg .H => .swap_H
  | .swap, .reg .L => .swap_L
  | .swap, .mHL => .swap_mHL
  | .swap, .reg .A => .swap_A
  | .srl, .reg .B => .srl_B
  | .srl, .reg .C => .srl_C
  | .srl, .reg .D => .srl_D
  | .srl, .reg .E => .srl_E
  | .srl, .reg .H => .srl_H
  | .srl, .reg .L => .srl_L
  | .srl, .mHL => .srl_mHL
  | .srl, .reg .A => .srl_A

/-- `BIT b,z` (R151). -/
def instrBit : Fin 8 → Operand8 → Instr
  | 0, .reg .B => .bit_0_B
  | 0, .reg .C => .bit_0_C
  | 0, .reg .D => .bit_0_D
  | 0, .reg .E => .bit_0_E
  | 0, .reg .H => .bit_0_H
  | 0, .reg .L => .bit_0_L
  | 0, .mHL => .bit_0_mHL
  | 0, .reg .A => .bit_0_A
  | 1, .reg .B => .bit_1_B
  | 1, .reg .C => .bit_1_C
  | 1, .reg .D => .bit_1_D
  | 1, .reg .E => .bit_1_E
  | 1, .reg .H => .bit_1_H
  | 1, .reg .L => .bit_1_L
  | 1, .mHL => .bit_1_mHL
  | 1, .reg .A => .bit_1_A
  | 2, .reg .B => .bit_2_B
  | 2, .reg .C => .bit_2_C
  | 2, .reg .D => .bit_2_D
  | 2, .reg .E => .bit_2_E
  | 2, .reg .H => .bit_2_H
  | 2, .reg .L => .bit_2_L
  | 2, .mHL => .bit_2_mHL
  | 2, .reg .A => .bit_2_A
  | 3, .reg .B => .bit_3_B
  | 3, .reg .C => .bit_3_C
  | 3, .reg .D => .bit_3_D
  | 3, .reg .E => .bit_3_E
  | 3, .reg .H => .bit_3_H
  | 3, .reg .L => .bit_3_L
  | 3, .mHL => .bit_3_mHL
  | 3, .reg .A => .bit_3_A
  | 4, .reg .B => .bit_4_B
  | 4, .reg .C => .bit_4_C
  | 4, .reg .D => .bit_4_D
  | 4, .reg .E => .bit_4_E
  | 4, .reg .H => .bit_4_H
  | 4, .reg .L => .bit_4_L
  | 4, .mHL => .bit_4_mHL
  | 4, .reg .A => .bit_4_A
  | 5, .reg .B => .bit_5_B
  | 5, .reg .C => .bit_5_C
  | 5, .reg .D => .bit_5_D
  | 5, .reg .E => .bit_5_E
  | 5, .reg .H => .bit_5_H
  | 5, .reg .L => .bit_5_L
  | 5, .mHL => .bit_5_mHL
  | 5, .reg .A => .bit_5_A
  | 6, .reg .B => .bit_6_B
  | 6, .reg .C => .bit_6_C
  | 6, .reg .D => .bit_6_D
  | 6, .reg .E => .bit_6_E
  | 6, .reg .H => .bit_6_H
  | 6, .reg .L => .bit_6_L
  | 6, .mHL => .bit_6_mHL
  | 6, .reg .A => .bit_6_A
  | 7, .reg .B => .bit_7_B
  | 7, .reg .C => .bit_7_C
  | 7, .reg .D => .bit_7_D
  | 7, .reg .E => .bit_7_E
  | 7, .reg .H => .bit_7_H
  | 7, .reg .L => .bit_7_L
  | 7, .mHL => .bit_7_mHL
  | 7, .reg .A => .bit_7_A

/-- `RES b,z` (R152). -/
def instrRes : Fin 8 → Operand8 → Instr
  | 0, .reg .B => .res_0_B
  | 0, .reg .C => .res_0_C
  | 0, .reg .D => .res_0_D
  | 0, .reg .E => .res_0_E
  | 0, .reg .H => .res_0_H
  | 0, .reg .L => .res_0_L
  | 0, .mHL => .res_0_mHL
  | 0, .reg .A => .res_0_A
  | 1, .reg .B => .res_1_B
  | 1, .reg .C => .res_1_C
  | 1, .reg .D => .res_1_D
  | 1, .reg .E => .res_1_E
  | 1, .reg .H => .res_1_H
  | 1, .reg .L => .res_1_L
  | 1, .mHL => .res_1_mHL
  | 1, .reg .A => .res_1_A
  | 2, .reg .B => .res_2_B
  | 2, .reg .C => .res_2_C
  | 2, .reg .D => .res_2_D
  | 2, .reg .E => .res_2_E
  | 2, .reg .H => .res_2_H
  | 2, .reg .L => .res_2_L
  | 2, .mHL => .res_2_mHL
  | 2, .reg .A => .res_2_A
  | 3, .reg .B => .res_3_B
  | 3, .reg .C => .res_3_C
  | 3, .reg .D => .res_3_D
  | 3, .reg .E => .res_3_E
  | 3, .reg .H => .res_3_H
  | 3, .reg .L => .res_3_L
  | 3, .mHL => .res_3_mHL
  | 3, .reg .A => .res_3_A
  | 4, .reg .B => .res_4_B
  | 4, .reg .C => .res_4_C
  | 4, .reg .D => .res_4_D
  | 4, .reg .E => .res_4_E
  | 4, .reg .H => .res_4_H
  | 4, .reg .L => .res_4_L
  | 4, .mHL => .res_4_mHL
  | 4, .reg .A => .res_4_A
  | 5, .reg .B => .res_5_B
  | 5, .reg .C => .res_5_C
  | 5, .reg .D => .res_5_D
  | 5, .reg .E => .res_5_E
  | 5, .reg .H => .res_5_H
  | 5, .reg .L => .res_5_L
  | 5, .mHL => .res_5_mHL
  | 5, .reg .A => .res_5_A
  | 6, .reg .B => .res_6_B
  | 6, .reg .C => .res_6_C
  | 6, .reg .D => .res_6_D
  | 6, .reg .E => .res_6_E
  | 6, .reg .H => .res_6_H
  | 6, .reg .L => .res_6_L
  | 6, .mHL => .res_6_mHL
  | 6, .reg .A => .res_6_A
  | 7, .reg .B => .res_7_B
  | 7, .reg .C => .res_7_C
  | 7, .reg .D => .res_7_D
  | 7, .reg .E => .res_7_E
  | 7, .reg .H => .res_7_H
  | 7, .reg .L => .res_7_L
  | 7, .mHL => .res_7_mHL
  | 7, .reg .A => .res_7_A

/-- `SET b,z` (R153). -/
def instrSet : Fin 8 → Operand8 → Instr
  | 0, .reg .B => .set_0_B
  | 0, .reg .C => .set_0_C
  | 0, .reg .D => .set_0_D
  | 0, .reg .E => .set_0_E
  | 0, .reg .H => .set_0_H
  | 0, .reg .L => .set_0_L
  | 0, .mHL => .set_0_mHL
  | 0, .reg .A => .set_0_A
  | 1, .reg .B => .set_1_B
  | 1, .reg .C => .set_1_C
  | 1, .reg .D => .set_1_D
  | 1, .reg .E => .set_1_E
  | 1, .reg .H => .set_1_H
  | 1, .reg .L => .set_1_L
  | 1, .mHL => .set_1_mHL
  | 1, .reg .A => .set_1_A
  | 2, .reg .B => .set_2_B
  | 2, .reg .C => .set_2_C
  | 2, .reg .D => .set_2_D
  | 2, .reg .E => .set_2_E
  | 2, .reg .H => .set_2_H
  | 2, .reg .L => .set_2_L
  | 2, .mHL => .set_2_mHL
  | 2, .reg .A => .set_2_A
  | 3, .reg .B => .set_3_B
  | 3, .reg .C => .set_3_C
  | 3, .reg .D => .set_3_D
  | 3, .reg .E => .set_3_E
  | 3, .reg .H => .set_3_H
  | 3, .reg .L => .set_3_L
  | 3, .mHL => .set_3_mHL
  | 3, .reg .A => .set_3_A
  | 4, .reg .B => .set_4_B
  | 4, .reg .C => .set_4_C
  | 4, .reg .D => .set_4_D
  | 4, .reg .E => .set_4_E
  | 4, .reg .H => .set_4_H
  | 4, .reg .L => .set_4_L
  | 4, .mHL => .set_4_mHL
  | 4, .reg .A => .set_4_A
  | 5, .reg .B => .set_5_B
  | 5, .reg .C => .set_5_C
  | 5, .reg .D => .set_5_D
  | 5, .reg .E => .set_5_E
  | 5, .reg .H => .set_5_H
  | 5, .reg .L => .set_5_L
  | 5, .mHL => .set_5_mHL
  | 5, .reg .A => .set_5_A
  | 6, .reg .B => .set_6_B
  | 6, .reg .C => .set_6_C
  | 6, .reg .D => .set_6_D
  | 6, .reg .E => .set_6_E
  | 6, .reg .H => .set_6_H
  | 6, .reg .L => .set_6_L
  | 6, .mHL => .set_6_mHL
  | 6, .reg .A => .set_6_A
  | 7, .reg .B => .set_7_B
  | 7, .reg .C => .set_7_C
  | 7, .reg .D => .set_7_D
  | 7, .reg .E => .set_7_E
  | 7, .reg .H => .set_7_H
  | 7, .reg .L => .set_7_L
  | 7, .mHL => .set_7_mHL
  | 7, .reg .A => .set_7_A

/-- `JP cc,a16` (R158). -/
def instrJpCc : Cond → Word → Instr
  | .NZ, w => .jp_NZ_a16 w
  | .Z, w => .jp_Z_a16 w
  | .NC, w => .jp_NC_a16 w
  | .C, w => .jp_C_a16 w

/-- `JR cc,e8` (R161). -/
def instrJrCc : Cond → Byte → Instr
  | .NZ, e => .jr_NZ_e8 e
  | .Z, e => .jr_Z_e8 e
  | .NC, e => .jr_NC_e8 e
  | .C, e => .jr_C_e8 e

/-- `CALL cc,a16` (R163). -/
def instrCallCc : Cond → Word → Instr
  | .NZ, w => .call_NZ_a16 w
  | .Z, w => .call_Z_a16 w
  | .NC, w => .call_NC_a16 w
  | .C, w => .call_C_a16 w

/-- `RET cc` (R165). -/
def instrRetCc : Cond → Instr
  | .NZ => .ret_NZ
  | .Z => .ret_Z
  | .NC => .ret_NC
  | .C => .ret_C

/-- `RST 8y` (R167). -/
def instrRst : Fin 8 → Instr
  | 0 => .rst_00
  | 1 => .rst_08
  | 2 => .rst_10
  | 3 => .rst_18
  | 4 => .rst_20
  | 5 => .rst_28
  | 6 => .rst_30
  | 7 => .rst_38

/-! ### Operand codes -/

/-- The 8-bit operand code (R72). -/
def operand8Of (code : Fin 8) : Operand8 :=
  match code with
  | 0 => .reg .B
  | 1 => .reg .C
  | 2 => .reg .D
  | 3 => .reg .E
  | 4 => .reg .H
  | 5 => .reg .L
  | 6 => .mHL
  | 7 => .reg .A

/-- The CB operation code (R78). -/
def rotOpOf (code : Fin 8) : RotOp :=
  match code with
  | 0 => .rlc
  | 1 => .rrc
  | 2 => .rl
  | 3 => .rr
  | 4 => .sla
  | 5 => .sra
  | 6 => .swap
  | 7 => .srl

/-! ### The unprefixed page (R84) -/

/-- What one cell of the unprefixed page says: a one-byte row, a row with an 8-bit immediate (formats
`OP_D8`, `OP_E8`, `OP_A8` of R69) or a 16-bit one (`OP_D16`), STOP with its ignored byte (`OP_STOP`),
or the prefix of the CB page (`CB`). -/
inductive Cell where
  | op (i : Instr)
  | imm8 (f : Byte → Instr)
  | imm16 (f : Word → Instr)
  | stop
  | cb

/-- Row 0x of R84. -/
def unprefixedRow0 : List Cell :=
  [.op .nop, .imm16 .ld_BC_d16, .op .ld_mBC_A, .op .inc_BC,
   .op .inc_B, .op .dec_B, .imm8 .ld_B_d8, .op .rlca,
   .imm16 .ld_ma16_SP, .op .add_HL_BC, .op .ld_A_mBC, .op .dec_BC,
   .op .inc_C, .op .dec_C, .imm8 .ld_C_d8, .op .rrca]

/-- Row 1x of R84. -/
def unprefixedRow1 : List Cell :=
  [.stop, .imm16 .ld_DE_d16, .op .ld_mDE_A, .op .inc_DE,
   .op .inc_D, .op .dec_D, .imm8 .ld_D_d8, .op .rla,
   .imm8 .jr_e8, .op .add_HL_DE, .op .ld_A_mDE, .op .dec_DE,
   .op .inc_E, .op .dec_E, .imm8 .ld_E_d8, .op .rra]

/-- Row 2x of R84. -/
def unprefixedRow2 : List Cell :=
  [.imm8 .jr_NZ_e8, .imm16 .ld_HL_d16, .op .ld_mHLinc_A, .op .inc_HL,
   .op .inc_H, .op .dec_H, .imm8 .ld_H_d8, .op .daa,
   .imm8 .jr_Z_e8, .op .add_HL_HL, .op .ld_A_mHLinc, .op .dec_HL,
   .op .inc_L, .op .dec_L, .imm8 .ld_L_d8, .op .cpl]

/-- Row 3x of R84. -/
def unprefixedRow3 : List Cell :=
  [.imm8 .jr_NC_e8, .imm16 .ld_SP_d16, .op .ld_mHLdec_A, .op .inc_SP,
   .op .inc_mHL, .op .dec_mHL, .imm8 .ld_mHL_d8, .op .scf,
   .imm8 .jr_C_e8, .op .add_HL_SP, .op .ld_A_mHLdec, .op .dec_SP,
   .op .inc_A, .op .dec_A, .imm8 .ld_A_d8, .op .ccf]

/-- Row 4x of R84. -/
def unprefixedRow4 : List Cell :=
  [.op .ld_B_B, .op .ld_B_C, .op .ld_B_D, .op .ld_B_E,
   .op .ld_B_H, .op .ld_B_L, .op .ld_B_mHL, .op .ld_B_A,
   .op .ld_C_B, .op .ld_C_C, .op .ld_C_D, .op .ld_C_E,
   .op .ld_C_H, .op .ld_C_L, .op .ld_C_mHL, .op .ld_C_A]

/-- Row 5x of R84. -/
def unprefixedRow5 : List Cell :=
  [.op .ld_D_B, .op .ld_D_C, .op .ld_D_D, .op .ld_D_E,
   .op .ld_D_H, .op .ld_D_L, .op .ld_D_mHL, .op .ld_D_A,
   .op .ld_E_B, .op .ld_E_C, .op .ld_E_D, .op .ld_E_E,
   .op .ld_E_H, .op .ld_E_L, .op .ld_E_mHL, .op .ld_E_A]

/-- Row 6x of R84. -/
def unprefixedRow6 : List Cell :=
  [.op .ld_H_B, .op .ld_H_C, .op .ld_H_D, .op .ld_H_E,
   .op .ld_H_H, .op .ld_H_L, .op .ld_H_mHL, .op .ld_H_A,
   .op .ld_L_B, .op .ld_L_C, .op .ld_L_D, .op .ld_L_E,
   .op .ld_L_H, .op .ld_L_L, .op .ld_L_mHL, .op .ld_L_A]

/-- Row 7x of R84. -/
def unprefixedRow7 : List Cell :=
  [.op .ld_mHL_B, .op .ld_mHL_C, .op .ld_mHL_D, .op .ld_mHL_E,
   .op .ld_mHL_H, .op .ld_mHL_L, .op .halt, .op .ld_mHL_A,
   .op .ld_A_B, .op .ld_A_C, .op .ld_A_D, .op .ld_A_E,
   .op .ld_A_H, .op .ld_A_L, .op .ld_A_mHL, .op .ld_A_A]

/-- Row 8x of R84. -/
def unprefixedRow8 : List Cell :=
  [.op .add_A_B, .op .add_A_C, .op .add_A_D, .op .add_A_E,
   .op .add_A_H, .op .add_A_L, .op .add_A_mHL, .op .add_A_A,
   .op .adc_A_B, .op .adc_A_C, .op .adc_A_D, .op .adc_A_E,
   .op .adc_A_H, .op .adc_A_L, .op .adc_A_mHL, .op .adc_A_A]

/-- Row 9x of R84. -/
def unprefixedRow9 : List Cell :=
  [.op .sub_B, .op .sub_C, .op .sub_D, .op .sub_E,
   .op .sub_H, .op .sub_L, .op .sub_mHL, .op .sub_A,
   .op .sbc_A_B, .op .sbc_A_C, .op .sbc_A_D, .op .sbc_A_E,
   .op .sbc_A_H, .op .sbc_A_L, .op .sbc_A_mHL, .op .sbc_A_A]

/-- Row Ax of R84. -/
def unprefixedRowA : List Cell :=
  [.op .and_B, .op .and_C, .op .and_D, .op .and_E,
   .op .and_H, .op .and_L, .op .and_mHL, .op .and_A,
   .op .xor_B, .op .xor_C, .op .xor_D, .op .xor_E,
   .op .xor_H, .op .xor_L, .op .xor_mHL, .op .xor_A]

/-- Row Bx of R84. -/
def unprefixedRowB : List Cell :=
  [.op .or_B, .op .or_C, .op .or_D, .op .or_E,
   .op .or_H, .op .or_L, .op .or_mHL, .op .or_A,
   .op .cp_B, .op .cp_C, .op .cp_D, .op .cp_E,
   .op .cp_H, .op .cp_L, .op .cp_mHL, .op .cp_A]

/-- Row Cx of R84. -/
def unprefixedRowC : List Cell :=
  [.op .ret_NZ, .op .pop_BC, .imm16 .jp_NZ_a16, .imm16 .jp_a16,
   .imm16 .call_NZ_a16, .op .push_BC, .imm8 .add_A_d8, .op .rst_00,
   .op .ret_Z, .op .ret, .imm16 .jp_Z_a16, .cb,
   .imm16 .call_Z_a16, .imm16 .call_a16, .imm8 .adc_A_d8, .op .rst_08]

/-- Row Dx of R84. -/
def unprefixedRowD : List Cell :=
  [.op .ret_NC, .op .pop_DE, .imm16 .jp_NC_a16, .op .undefined_D3,
   .imm16 .call_NC_a16, .op .push_DE, .imm8 .sub_d8, .op .rst_10,
   .op .ret_C, .op .reti, .imm16 .jp_C_a16, .op .undefined_DB,
   .imm16 .call_C_a16, .op .undefined_DD, .imm8 .sbc_A_d8, .op .rst_18]

/-- Row Ex of R84. -/
def unprefixedRowE : List Cell :=
  [.imm8 .ldh_ma8_A, .op .pop_HL, .op .ld_mC_A, .op .undefined_E3,
   .op .undefined_E4, .op .push_HL, .imm8 .and_d8, .op .rst_20,
   .imm8 .add_SP_e8, .op .jp_HL, .imm16 .ld_ma16_A, .op .undefined_EB,
   .op .undefined_EC, .op .undefined_ED, .imm8 .xor_d8, .op .rst_28]

/-- Row Fx of R84. -/
def unprefixedRowF : List Cell :=
  [.imm8 .ldh_A_ma8, .op .pop_AF, .op .ld_A_mC, .op .di,
   .op .undefined_F4, .op .push_AF, .imm8 .or_d8, .op .rst_30,
   .imm8 .ld_HL_SPe8, .op .ld_SP_HL, .imm16 .ld_A_ma16, .op .ei,
   .op .undefined_FC, .op .undefined_FD, .imm8 .cp_d8, .op .rst_38]

/-- The unprefixed page, row by row (R84). -/
def unprefixedPage : List (List Cell) :=
  [unprefixedRow0, unprefixedRow1, unprefixedRow2, unprefixedRow3, unprefixedRow4, unprefixedRow5,
   unprefixedRow6, unprefixedRow7, unprefixedRow8, unprefixedRow9, unprefixedRowA, unprefixedRowB,
   unprefixedRowC, unprefixedRowD, unprefixedRowE, unprefixedRowF]

/-- The cell of an opcode byte: row by its high nibble, column by its low nibble (R84, R88). Every row
has sixteen cells, so the two defaults are never taken (`Laws.unprefixedPage_full`). -/
def cell (op : Byte) : Cell :=
  (unprefixedPage.getD (op.toNat / 16) []).getD (op.toNat % 16) .cb

/-- The row of the CB page that `op2` selects, by its fields x, y and z (R78, R86, R87). -/
def cbInstr (op2 : Byte) : Instr :=
  match xField op2 with
  | 0 => instrRot (rotOpOf (yField op2)) (operand8Of (zField op2))
  | 1 => instrBit (yField op2) (operand8Of (zField op2))
  | 2 => instrRes (yField op2) (operand8Of (zField op2))
  | 3 => instrSet (yField op2) (operand8Of (zField op2))

/-! ### The decoder -/

/-- Why a list of bytes gives no instruction. -/
inductive DecodeRefusal where
  /-- The list is empty. -/
  | noBytes
  /-- The bytes end inside the instruction that `op` begins. -/
  | truncated (op : Byte)
  deriving DecidableEq, Repr

/-- An instruction and the bytes after it, or a refusal by name. -/
inductive DecodeResult where
  | ok (i : Instr) (rest : List Byte)
  | refused (r : DecodeRefusal)
  deriving DecidableEq, Repr

/-- Decode the instruction at the head of a list of bytes (R69, R81, R86, R88, R91). -/
def decode (bytes : List Byte) : DecodeResult :=
  match bytes with
  | [] => .refused .noBytes
  | op :: rest =>
    match cell op with
    | .op i => .ok i rest
    | .imm8 f =>
      match rest with
      | v :: rest' => .ok (f v) rest'
      | [] => .refused (.truncated op)
    | .imm16 f =>
      match rest with
      | l :: h :: rest' => .ok (f (joinBytes h l)) rest'
      | _ => .refused (.truncated op)
    | .stop =>
      match rest with
      | v :: rest' => .ok (.stop v) rest'
      | [] => .refused (.truncated op)
    | .cb =>
      match rest with
      | op2 :: rest' => .ok (cbInstr op2) rest'
      | [] => .refused (.truncated op)

/-- An instruction's length in bytes as a function of its first byte alone (R70). The undefined
opcodes have no length there; one byte of them is fetched. -/
def lengthOf (op : Byte) : Nat :=
  if op ∈ [0x01#8, 0x11#8, 0x21#8, 0x31#8, 0x08#8, 0xC2#8, 0xCA#8, 0xD2#8, 0xDA#8, 0xC3#8, 0xC4#8,
      0xCC#8, 0xD4#8, 0xDC#8, 0xCD#8, 0xEA#8, 0xFA#8] then 3
  else if op ∈ [0x06#8, 0x0E#8, 0x16#8, 0x1E#8, 0x26#8, 0x2E#8, 0x36#8, 0x3E#8, 0x10#8, 0x18#8,
      0x20#8, 0x28#8, 0x30#8, 0x38#8, 0xC6#8, 0xCE#8, 0xD6#8, 0xDE#8, 0xE6#8, 0xEE#8, 0xF6#8, 0xFE#8,
      0xE0#8, 0xF0#8, 0xE8#8, 0xF8#8, 0xCB#8] then 2
  else 1

/-- The eleven undefined opcodes of the unprefixed page (R89). -/
def undefinedOpcodes : List Byte :=
  [0xD3#8, 0xDB#8, 0xDD#8, 0xE3#8, 0xE4#8, 0xEB#8, 0xEC#8, 0xED#8, 0xF4#8, 0xFC#8, 0xFD#8]

/-! ### The encoder -/

/-- The bytes of an instruction, in fetch order, from the opcode of its row of spec/opcode_table.json
and the formats of R69; a 16-bit immediate low byte first (R81). -/
def encode (i : Instr) : List Byte :=
  match i with
  | .nop => [0x00#8]
  | .ld_BC_d16 w => [0x01#8, loByte w, hiByte w]
  | .ld_mBC_A => [0x02#8]
  | .inc_BC => [0x03#8]
  | .inc_B => [0x04#8]
  | .dec_B => [0x05#8]
  | .ld_B_d8 v => [0x06#8, v]
  | .rlca => [0x07#8]
  | .ld_ma16_SP w => [0x08#8, loByte w, hiByte w]
  | .add_HL_BC => [0x09#8]
  | .ld_A_mBC => [0x0A#8]
  | .dec_BC => [0x0B#8]
  | .inc_C => [0x0C#8]
  | .dec_C => [0x0D#8]
  | .ld_C_d8 v => [0x0E#8, v]
  | .rrca => [0x0F#8]
  | .stop ignored => [0x10#8, ignored]
  | .ld_DE_d16 w => [0x11#8, loByte w, hiByte w]
  | .ld_mDE_A => [0x12#8]
  | .inc_DE => [0x13#8]
  | .inc_D => [0x14#8]
  | .dec_D => [0x15#8]
  | .ld_D_d8 v => [0x16#8, v]
  | .rla => [0x17#8]
  | .jr_e8 e => [0x18#8, e]
  | .add_HL_DE => [0x19#8]
  | .ld_A_mDE => [0x1A#8]
  | .dec_DE => [0x1B#8]
  | .inc_E => [0x1C#8]
  | .dec_E => [0x1D#8]
  | .ld_E_d8 v => [0x1E#8, v]
  | .rra => [0x1F#8]
  | .jr_NZ_e8 e => [0x20#8, e]
  | .ld_HL_d16 w => [0x21#8, loByte w, hiByte w]
  | .ld_mHLinc_A => [0x22#8]
  | .inc_HL => [0x23#8]
  | .inc_H => [0x24#8]
  | .dec_H => [0x25#8]
  | .ld_H_d8 v => [0x26#8, v]
  | .daa => [0x27#8]
  | .jr_Z_e8 e => [0x28#8, e]
  | .add_HL_HL => [0x29#8]
  | .ld_A_mHLinc => [0x2A#8]
  | .dec_HL => [0x2B#8]
  | .inc_L => [0x2C#8]
  | .dec_L => [0x2D#8]
  | .ld_L_d8 v => [0x2E#8, v]
  | .cpl => [0x2F#8]
  | .jr_NC_e8 e => [0x30#8, e]
  | .ld_SP_d16 w => [0x31#8, loByte w, hiByte w]
  | .ld_mHLdec_A => [0x32#8]
  | .inc_SP => [0x33#8]
  | .inc_mHL => [0x34#8]
  | .dec_mHL => [0x35#8]
  | .ld_mHL_d8 v => [0x36#8, v]
  | .scf => [0x37#8]
  | .jr_C_e8 e => [0x38#8, e]
  | .add_HL_SP => [0x39#8]
  | .ld_A_mHLdec => [0x3A#8]
  | .dec_SP => [0x3B#8]
  | .inc_A => [0x3C#8]
  | .dec_A => [0x3D#8]
  | .ld_A_d8 v => [0x3E#8, v]
  | .ccf => [0x3F#8]
  | .ld_B_B => [0x40#8]
  | .ld_B_C => [0x41#8]
  | .ld_B_D => [0x42#8]
  | .ld_B_E => [0x43#8]
  | .ld_B_H => [0x44#8]
  | .ld_B_L => [0x45#8]
  | .ld_B_mHL => [0x46#8]
  | .ld_B_A => [0x47#8]
  | .ld_C_B => [0x48#8]
  | .ld_C_C => [0x49#8]
  | .ld_C_D => [0x4A#8]
  | .ld_C_E => [0x4B#8]
  | .ld_C_H => [0x4C#8]
  | .ld_C_L => [0x4D#8]
  | .ld_C_mHL => [0x4E#8]
  | .ld_C_A => [0x4F#8]
  | .ld_D_B => [0x50#8]
  | .ld_D_C => [0x51#8]
  | .ld_D_D => [0x52#8]
  | .ld_D_E => [0x53#8]
  | .ld_D_H => [0x54#8]
  | .ld_D_L => [0x55#8]
  | .ld_D_mHL => [0x56#8]
  | .ld_D_A => [0x57#8]
  | .ld_E_B => [0x58#8]
  | .ld_E_C => [0x59#8]
  | .ld_E_D => [0x5A#8]
  | .ld_E_E => [0x5B#8]
  | .ld_E_H => [0x5C#8]
  | .ld_E_L => [0x5D#8]
  | .ld_E_mHL => [0x5E#8]
  | .ld_E_A => [0x5F#8]
  | .ld_H_B => [0x60#8]
  | .ld_H_C => [0x61#8]
  | .ld_H_D => [0x62#8]
  | .ld_H_E => [0x63#8]
  | .ld_H_H => [0x64#8]
  | .ld_H_L => [0x65#8]
  | .ld_H_mHL => [0x66#8]
  | .ld_H_A => [0x67#8]
  | .ld_L_B => [0x68#8]
  | .ld_L_C => [0x69#8]
  | .ld_L_D => [0x6A#8]
  | .ld_L_E => [0x6B#8]
  | .ld_L_H => [0x6C#8]
  | .ld_L_L => [0x6D#8]
  | .ld_L_mHL => [0x6E#8]
  | .ld_L_A => [0x6F#8]
  | .ld_mHL_B => [0x70#8]
  | .ld_mHL_C => [0x71#8]
  | .ld_mHL_D => [0x72#8]
  | .ld_mHL_E => [0x73#8]
  | .ld_mHL_H => [0x74#8]
  | .ld_mHL_L => [0x75#8]
  | .halt => [0x76#8]
  | .ld_mHL_A => [0x77#8]
  | .ld_A_B => [0x78#8]
  | .ld_A_C => [0x79#8]
  | .ld_A_D => [0x7A#8]
  | .ld_A_E => [0x7B#8]
  | .ld_A_H => [0x7C#8]
  | .ld_A_L => [0x7D#8]
  | .ld_A_mHL => [0x7E#8]
  | .ld_A_A => [0x7F#8]
  | .add_A_B => [0x80#8]
  | .add_A_C => [0x81#8]
  | .add_A_D => [0x82#8]
  | .add_A_E => [0x83#8]
  | .add_A_H => [0x84#8]
  | .add_A_L => [0x85#8]
  | .add_A_mHL => [0x86#8]
  | .add_A_A => [0x87#8]
  | .adc_A_B => [0x88#8]
  | .adc_A_C => [0x89#8]
  | .adc_A_D => [0x8A#8]
  | .adc_A_E => [0x8B#8]
  | .adc_A_H => [0x8C#8]
  | .adc_A_L => [0x8D#8]
  | .adc_A_mHL => [0x8E#8]
  | .adc_A_A => [0x8F#8]
  | .sub_B => [0x90#8]
  | .sub_C => [0x91#8]
  | .sub_D => [0x92#8]
  | .sub_E => [0x93#8]
  | .sub_H => [0x94#8]
  | .sub_L => [0x95#8]
  | .sub_mHL => [0x96#8]
  | .sub_A => [0x97#8]
  | .sbc_A_B => [0x98#8]
  | .sbc_A_C => [0x99#8]
  | .sbc_A_D => [0x9A#8]
  | .sbc_A_E => [0x9B#8]
  | .sbc_A_H => [0x9C#8]
  | .sbc_A_L => [0x9D#8]
  | .sbc_A_mHL => [0x9E#8]
  | .sbc_A_A => [0x9F#8]
  | .and_B => [0xA0#8]
  | .and_C => [0xA1#8]
  | .and_D => [0xA2#8]
  | .and_E => [0xA3#8]
  | .and_H => [0xA4#8]
  | .and_L => [0xA5#8]
  | .and_mHL => [0xA6#8]
  | .and_A => [0xA7#8]
  | .xor_B => [0xA8#8]
  | .xor_C => [0xA9#8]
  | .xor_D => [0xAA#8]
  | .xor_E => [0xAB#8]
  | .xor_H => [0xAC#8]
  | .xor_L => [0xAD#8]
  | .xor_mHL => [0xAE#8]
  | .xor_A => [0xAF#8]
  | .or_B => [0xB0#8]
  | .or_C => [0xB1#8]
  | .or_D => [0xB2#8]
  | .or_E => [0xB3#8]
  | .or_H => [0xB4#8]
  | .or_L => [0xB5#8]
  | .or_mHL => [0xB6#8]
  | .or_A => [0xB7#8]
  | .cp_B => [0xB8#8]
  | .cp_C => [0xB9#8]
  | .cp_D => [0xBA#8]
  | .cp_E => [0xBB#8]
  | .cp_H => [0xBC#8]
  | .cp_L => [0xBD#8]
  | .cp_mHL => [0xBE#8]
  | .cp_A => [0xBF#8]
  | .ret_NZ => [0xC0#8]
  | .pop_BC => [0xC1#8]
  | .jp_NZ_a16 w => [0xC2#8, loByte w, hiByte w]
  | .jp_a16 w => [0xC3#8, loByte w, hiByte w]
  | .call_NZ_a16 w => [0xC4#8, loByte w, hiByte w]
  | .push_BC => [0xC5#8]
  | .add_A_d8 v => [0xC6#8, v]
  | .rst_00 => [0xC7#8]
  | .ret_Z => [0xC8#8]
  | .ret => [0xC9#8]
  | .jp_Z_a16 w => [0xCA#8, loByte w, hiByte w]
  | .prefix_CB op2 => [0xCB#8, op2]
  | .call_Z_a16 w => [0xCC#8, loByte w, hiByte w]
  | .call_a16 w => [0xCD#8, loByte w, hiByte w]
  | .adc_A_d8 v => [0xCE#8, v]
  | .rst_08 => [0xCF#8]
  | .ret_NC => [0xD0#8]
  | .pop_DE => [0xD1#8]
  | .jp_NC_a16 w => [0xD2#8, loByte w, hiByte w]
  | .undefined_D3 => [0xD3#8]
  | .call_NC_a16 w => [0xD4#8, loByte w, hiByte w]
  | .push_DE => [0xD5#8]
  | .sub_d8 v => [0xD6#8, v]
  | .rst_10 => [0xD7#8]
  | .ret_C => [0xD8#8]
  | .reti => [0xD9#8]
  | .jp_C_a16 w => [0xDA#8, loByte w, hiByte w]
  | .undefined_DB => [0xDB#8]
  | .call_C_a16 w => [0xDC#8, loByte w, hiByte w]
  | .undefined_DD => [0xDD#8]
  | .sbc_A_d8 v => [0xDE#8, v]
  | .rst_18 => [0xDF#8]
  | .ldh_ma8_A n => [0xE0#8, n]
  | .pop_HL => [0xE1#8]
  | .ld_mC_A => [0xE2#8]
  | .undefined_E3 => [0xE3#8]
  | .undefined_E4 => [0xE4#8]
  | .push_HL => [0xE5#8]
  | .and_d8 v => [0xE6#8, v]
  | .rst_20 => [0xE7#8]
  | .add_SP_e8 e => [0xE8#8, e]
  | .jp_HL => [0xE9#8]
  | .ld_ma16_A w => [0xEA#8, loByte w, hiByte w]
  | .undefined_EB => [0xEB#8]
  | .undefined_EC => [0xEC#8]
  | .undefined_ED => [0xED#8]
  | .xor_d8 v => [0xEE#8, v]
  | .rst_28 => [0xEF#8]
  | .ldh_A_ma8 n => [0xF0#8, n]
  | .pop_AF => [0xF1#8]
  | .ld_A_mC => [0xF2#8]
  | .di => [0xF3#8]
  | .undefined_F4 => [0xF4#8]
  | .push_AF => [0xF5#8]
  | .or_d8 v => [0xF6#8, v]
  | .rst_30 => [0xF7#8]
  | .ld_HL_SPe8 e => [0xF8#8, e]
  | .ld_SP_HL => [0xF9#8]
  | .ld_A_ma16 w => [0xFA#8, loByte w, hiByte w]
  | .ei => [0xFB#8]
  | .undefined_FC => [0xFC#8]
  | .undefined_FD => [0xFD#8]
  | .cp_d8 v => [0xFE#8, v]
  | .rst_38 => [0xFF#8]
  | .rlc_B => [0xCB#8, 0x00#8]
  | .rlc_C => [0xCB#8, 0x01#8]
  | .rlc_D => [0xCB#8, 0x02#8]
  | .rlc_E => [0xCB#8, 0x03#8]
  | .rlc_H => [0xCB#8, 0x04#8]
  | .rlc_L => [0xCB#8, 0x05#8]
  | .rlc_mHL => [0xCB#8, 0x06#8]
  | .rlc_A => [0xCB#8, 0x07#8]
  | .rrc_B => [0xCB#8, 0x08#8]
  | .rrc_C => [0xCB#8, 0x09#8]
  | .rrc_D => [0xCB#8, 0x0A#8]
  | .rrc_E => [0xCB#8, 0x0B#8]
  | .rrc_H => [0xCB#8, 0x0C#8]
  | .rrc_L => [0xCB#8, 0x0D#8]
  | .rrc_mHL => [0xCB#8, 0x0E#8]
  | .rrc_A => [0xCB#8, 0x0F#8]
  | .rl_B => [0xCB#8, 0x10#8]
  | .rl_C => [0xCB#8, 0x11#8]
  | .rl_D => [0xCB#8, 0x12#8]
  | .rl_E => [0xCB#8, 0x13#8]
  | .rl_H => [0xCB#8, 0x14#8]
  | .rl_L => [0xCB#8, 0x15#8]
  | .rl_mHL => [0xCB#8, 0x16#8]
  | .rl_A => [0xCB#8, 0x17#8]
  | .rr_B => [0xCB#8, 0x18#8]
  | .rr_C => [0xCB#8, 0x19#8]
  | .rr_D => [0xCB#8, 0x1A#8]
  | .rr_E => [0xCB#8, 0x1B#8]
  | .rr_H => [0xCB#8, 0x1C#8]
  | .rr_L => [0xCB#8, 0x1D#8]
  | .rr_mHL => [0xCB#8, 0x1E#8]
  | .rr_A => [0xCB#8, 0x1F#8]
  | .sla_B => [0xCB#8, 0x20#8]
  | .sla_C => [0xCB#8, 0x21#8]
  | .sla_D => [0xCB#8, 0x22#8]
  | .sla_E => [0xCB#8, 0x23#8]
  | .sla_H => [0xCB#8, 0x24#8]
  | .sla_L => [0xCB#8, 0x25#8]
  | .sla_mHL => [0xCB#8, 0x26#8]
  | .sla_A => [0xCB#8, 0x27#8]
  | .sra_B => [0xCB#8, 0x28#8]
  | .sra_C => [0xCB#8, 0x29#8]
  | .sra_D => [0xCB#8, 0x2A#8]
  | .sra_E => [0xCB#8, 0x2B#8]
  | .sra_H => [0xCB#8, 0x2C#8]
  | .sra_L => [0xCB#8, 0x2D#8]
  | .sra_mHL => [0xCB#8, 0x2E#8]
  | .sra_A => [0xCB#8, 0x2F#8]
  | .swap_B => [0xCB#8, 0x30#8]
  | .swap_C => [0xCB#8, 0x31#8]
  | .swap_D => [0xCB#8, 0x32#8]
  | .swap_E => [0xCB#8, 0x33#8]
  | .swap_H => [0xCB#8, 0x34#8]
  | .swap_L => [0xCB#8, 0x35#8]
  | .swap_mHL => [0xCB#8, 0x36#8]
  | .swap_A => [0xCB#8, 0x37#8]
  | .srl_B => [0xCB#8, 0x38#8]
  | .srl_C => [0xCB#8, 0x39#8]
  | .srl_D => [0xCB#8, 0x3A#8]
  | .srl_E => [0xCB#8, 0x3B#8]
  | .srl_H => [0xCB#8, 0x3C#8]
  | .srl_L => [0xCB#8, 0x3D#8]
  | .srl_mHL => [0xCB#8, 0x3E#8]
  | .srl_A => [0xCB#8, 0x3F#8]
  | .bit_0_B => [0xCB#8, 0x40#8]
  | .bit_0_C => [0xCB#8, 0x41#8]
  | .bit_0_D => [0xCB#8, 0x42#8]
  | .bit_0_E => [0xCB#8, 0x43#8]
  | .bit_0_H => [0xCB#8, 0x44#8]
  | .bit_0_L => [0xCB#8, 0x45#8]
  | .bit_0_mHL => [0xCB#8, 0x46#8]
  | .bit_0_A => [0xCB#8, 0x47#8]
  | .bit_1_B => [0xCB#8, 0x48#8]
  | .bit_1_C => [0xCB#8, 0x49#8]
  | .bit_1_D => [0xCB#8, 0x4A#8]
  | .bit_1_E => [0xCB#8, 0x4B#8]
  | .bit_1_H => [0xCB#8, 0x4C#8]
  | .bit_1_L => [0xCB#8, 0x4D#8]
  | .bit_1_mHL => [0xCB#8, 0x4E#8]
  | .bit_1_A => [0xCB#8, 0x4F#8]
  | .bit_2_B => [0xCB#8, 0x50#8]
  | .bit_2_C => [0xCB#8, 0x51#8]
  | .bit_2_D => [0xCB#8, 0x52#8]
  | .bit_2_E => [0xCB#8, 0x53#8]
  | .bit_2_H => [0xCB#8, 0x54#8]
  | .bit_2_L => [0xCB#8, 0x55#8]
  | .bit_2_mHL => [0xCB#8, 0x56#8]
  | .bit_2_A => [0xCB#8, 0x57#8]
  | .bit_3_B => [0xCB#8, 0x58#8]
  | .bit_3_C => [0xCB#8, 0x59#8]
  | .bit_3_D => [0xCB#8, 0x5A#8]
  | .bit_3_E => [0xCB#8, 0x5B#8]
  | .bit_3_H => [0xCB#8, 0x5C#8]
  | .bit_3_L => [0xCB#8, 0x5D#8]
  | .bit_3_mHL => [0xCB#8, 0x5E#8]
  | .bit_3_A => [0xCB#8, 0x5F#8]
  | .bit_4_B => [0xCB#8, 0x60#8]
  | .bit_4_C => [0xCB#8, 0x61#8]
  | .bit_4_D => [0xCB#8, 0x62#8]
  | .bit_4_E => [0xCB#8, 0x63#8]
  | .bit_4_H => [0xCB#8, 0x64#8]
  | .bit_4_L => [0xCB#8, 0x65#8]
  | .bit_4_mHL => [0xCB#8, 0x66#8]
  | .bit_4_A => [0xCB#8, 0x67#8]
  | .bit_5_B => [0xCB#8, 0x68#8]
  | .bit_5_C => [0xCB#8, 0x69#8]
  | .bit_5_D => [0xCB#8, 0x6A#8]
  | .bit_5_E => [0xCB#8, 0x6B#8]
  | .bit_5_H => [0xCB#8, 0x6C#8]
  | .bit_5_L => [0xCB#8, 0x6D#8]
  | .bit_5_mHL => [0xCB#8, 0x6E#8]
  | .bit_5_A => [0xCB#8, 0x6F#8]
  | .bit_6_B => [0xCB#8, 0x70#8]
  | .bit_6_C => [0xCB#8, 0x71#8]
  | .bit_6_D => [0xCB#8, 0x72#8]
  | .bit_6_E => [0xCB#8, 0x73#8]
  | .bit_6_H => [0xCB#8, 0x74#8]
  | .bit_6_L => [0xCB#8, 0x75#8]
  | .bit_6_mHL => [0xCB#8, 0x76#8]
  | .bit_6_A => [0xCB#8, 0x77#8]
  | .bit_7_B => [0xCB#8, 0x78#8]
  | .bit_7_C => [0xCB#8, 0x79#8]
  | .bit_7_D => [0xCB#8, 0x7A#8]
  | .bit_7_E => [0xCB#8, 0x7B#8]
  | .bit_7_H => [0xCB#8, 0x7C#8]
  | .bit_7_L => [0xCB#8, 0x7D#8]
  | .bit_7_mHL => [0xCB#8, 0x7E#8]
  | .bit_7_A => [0xCB#8, 0x7F#8]
  | .res_0_B => [0xCB#8, 0x80#8]
  | .res_0_C => [0xCB#8, 0x81#8]
  | .res_0_D => [0xCB#8, 0x82#8]
  | .res_0_E => [0xCB#8, 0x83#8]
  | .res_0_H => [0xCB#8, 0x84#8]
  | .res_0_L => [0xCB#8, 0x85#8]
  | .res_0_mHL => [0xCB#8, 0x86#8]
  | .res_0_A => [0xCB#8, 0x87#8]
  | .res_1_B => [0xCB#8, 0x88#8]
  | .res_1_C => [0xCB#8, 0x89#8]
  | .res_1_D => [0xCB#8, 0x8A#8]
  | .res_1_E => [0xCB#8, 0x8B#8]
  | .res_1_H => [0xCB#8, 0x8C#8]
  | .res_1_L => [0xCB#8, 0x8D#8]
  | .res_1_mHL => [0xCB#8, 0x8E#8]
  | .res_1_A => [0xCB#8, 0x8F#8]
  | .res_2_B => [0xCB#8, 0x90#8]
  | .res_2_C => [0xCB#8, 0x91#8]
  | .res_2_D => [0xCB#8, 0x92#8]
  | .res_2_E => [0xCB#8, 0x93#8]
  | .res_2_H => [0xCB#8, 0x94#8]
  | .res_2_L => [0xCB#8, 0x95#8]
  | .res_2_mHL => [0xCB#8, 0x96#8]
  | .res_2_A => [0xCB#8, 0x97#8]
  | .res_3_B => [0xCB#8, 0x98#8]
  | .res_3_C => [0xCB#8, 0x99#8]
  | .res_3_D => [0xCB#8, 0x9A#8]
  | .res_3_E => [0xCB#8, 0x9B#8]
  | .res_3_H => [0xCB#8, 0x9C#8]
  | .res_3_L => [0xCB#8, 0x9D#8]
  | .res_3_mHL => [0xCB#8, 0x9E#8]
  | .res_3_A => [0xCB#8, 0x9F#8]
  | .res_4_B => [0xCB#8, 0xA0#8]
  | .res_4_C => [0xCB#8, 0xA1#8]
  | .res_4_D => [0xCB#8, 0xA2#8]
  | .res_4_E => [0xCB#8, 0xA3#8]
  | .res_4_H => [0xCB#8, 0xA4#8]
  | .res_4_L => [0xCB#8, 0xA5#8]
  | .res_4_mHL => [0xCB#8, 0xA6#8]
  | .res_4_A => [0xCB#8, 0xA7#8]
  | .res_5_B => [0xCB#8, 0xA8#8]
  | .res_5_C => [0xCB#8, 0xA9#8]
  | .res_5_D => [0xCB#8, 0xAA#8]
  | .res_5_E => [0xCB#8, 0xAB#8]
  | .res_5_H => [0xCB#8, 0xAC#8]
  | .res_5_L => [0xCB#8, 0xAD#8]
  | .res_5_mHL => [0xCB#8, 0xAE#8]
  | .res_5_A => [0xCB#8, 0xAF#8]
  | .res_6_B => [0xCB#8, 0xB0#8]
  | .res_6_C => [0xCB#8, 0xB1#8]
  | .res_6_D => [0xCB#8, 0xB2#8]
  | .res_6_E => [0xCB#8, 0xB3#8]
  | .res_6_H => [0xCB#8, 0xB4#8]
  | .res_6_L => [0xCB#8, 0xB5#8]
  | .res_6_mHL => [0xCB#8, 0xB6#8]
  | .res_6_A => [0xCB#8, 0xB7#8]
  | .res_7_B => [0xCB#8, 0xB8#8]
  | .res_7_C => [0xCB#8, 0xB9#8]
  | .res_7_D => [0xCB#8, 0xBA#8]
  | .res_7_E => [0xCB#8, 0xBB#8]
  | .res_7_H => [0xCB#8, 0xBC#8]
  | .res_7_L => [0xCB#8, 0xBD#8]
  | .res_7_mHL => [0xCB#8, 0xBE#8]
  | .res_7_A => [0xCB#8, 0xBF#8]
  | .set_0_B => [0xCB#8, 0xC0#8]
  | .set_0_C => [0xCB#8, 0xC1#8]
  | .set_0_D => [0xCB#8, 0xC2#8]
  | .set_0_E => [0xCB#8, 0xC3#8]
  | .set_0_H => [0xCB#8, 0xC4#8]
  | .set_0_L => [0xCB#8, 0xC5#8]
  | .set_0_mHL => [0xCB#8, 0xC6#8]
  | .set_0_A => [0xCB#8, 0xC7#8]
  | .set_1_B => [0xCB#8, 0xC8#8]
  | .set_1_C => [0xCB#8, 0xC9#8]
  | .set_1_D => [0xCB#8, 0xCA#8]
  | .set_1_E => [0xCB#8, 0xCB#8]
  | .set_1_H => [0xCB#8, 0xCC#8]
  | .set_1_L => [0xCB#8, 0xCD#8]
  | .set_1_mHL => [0xCB#8, 0xCE#8]
  | .set_1_A => [0xCB#8, 0xCF#8]
  | .set_2_B => [0xCB#8, 0xD0#8]
  | .set_2_C => [0xCB#8, 0xD1#8]
  | .set_2_D => [0xCB#8, 0xD2#8]
  | .set_2_E => [0xCB#8, 0xD3#8]
  | .set_2_H => [0xCB#8, 0xD4#8]
  | .set_2_L => [0xCB#8, 0xD5#8]
  | .set_2_mHL => [0xCB#8, 0xD6#8]
  | .set_2_A => [0xCB#8, 0xD7#8]
  | .set_3_B => [0xCB#8, 0xD8#8]
  | .set_3_C => [0xCB#8, 0xD9#8]
  | .set_3_D => [0xCB#8, 0xDA#8]
  | .set_3_E => [0xCB#8, 0xDB#8]
  | .set_3_H => [0xCB#8, 0xDC#8]
  | .set_3_L => [0xCB#8, 0xDD#8]
  | .set_3_mHL => [0xCB#8, 0xDE#8]
  | .set_3_A => [0xCB#8, 0xDF#8]
  | .set_4_B => [0xCB#8, 0xE0#8]
  | .set_4_C => [0xCB#8, 0xE1#8]
  | .set_4_D => [0xCB#8, 0xE2#8]
  | .set_4_E => [0xCB#8, 0xE3#8]
  | .set_4_H => [0xCB#8, 0xE4#8]
  | .set_4_L => [0xCB#8, 0xE5#8]
  | .set_4_mHL => [0xCB#8, 0xE6#8]
  | .set_4_A => [0xCB#8, 0xE7#8]
  | .set_5_B => [0xCB#8, 0xE8#8]
  | .set_5_C => [0xCB#8, 0xE9#8]
  | .set_5_D => [0xCB#8, 0xEA#8]
  | .set_5_E => [0xCB#8, 0xEB#8]
  | .set_5_H => [0xCB#8, 0xEC#8]
  | .set_5_L => [0xCB#8, 0xED#8]
  | .set_5_mHL => [0xCB#8, 0xEE#8]
  | .set_5_A => [0xCB#8, 0xEF#8]
  | .set_6_B => [0xCB#8, 0xF0#8]
  | .set_6_C => [0xCB#8, 0xF1#8]
  | .set_6_D => [0xCB#8, 0xF2#8]
  | .set_6_E => [0xCB#8, 0xF3#8]
  | .set_6_H => [0xCB#8, 0xF4#8]
  | .set_6_L => [0xCB#8, 0xF5#8]
  | .set_6_mHL => [0xCB#8, 0xF6#8]
  | .set_6_A => [0xCB#8, 0xF7#8]
  | .set_7_B => [0xCB#8, 0xF8#8]
  | .set_7_C => [0xCB#8, 0xF9#8]
  | .set_7_D => [0xCB#8, 0xFA#8]
  | .set_7_E => [0xCB#8, 0xFB#8]
  | .set_7_H => [0xCB#8, 0xFC#8]
  | .set_7_L => [0xCB#8, 0xFD#8]
  | .set_7_mHL => [0xCB#8, 0xFE#8]
  | .set_7_A => [0xCB#8, 0xFF#8]

/-! ### The host's table words -/

/-- The bytes, in fetch order, of an instruction whose bits are `w` as spec/opcode_table.json numbers
them, zero-padded to the longest instruction (three bytes). A row of one byte has its byte in bits 7 to
0. A CB row's `match` is the two bytes "read as one big-endian 16-bit value" (spec/INDEX.md): its first
byte, 0xCB, stands in bits 15 to 8. Any other word of 16 bits or more is read first byte in bits 7 to 0
(assumption 9). -/
def tableBytes (nbits w : Nat) : List Byte :=
  if nbits = 16 ∧ w / 256 % 256 = 0xCB then
    [BitVec.ofNat 8 (w / 256), BitVec.ofNat 8 w, 0x00#8]
  else
    let v := w % 2 ^ nbits
    [BitVec.ofNat 8 v, BitVec.ofNat 8 (v / 256), BitVec.ofNat 8 (v / 65536)]

/-- The instruction the decoder reads from a word of the opcode table. -/
def decodeTableWord (nbits w : Nat) : Option Instr :=
  match decode (tableBytes nbits w) with
  | .ok i _ => some i
  | .refused _ => none

end Sys2Proof
end

