-- ==== Sys2Proof/Machine/System.lean ====
section
/-! DEFINITION. System and control instructions (R168 to R172), the undefined opcodes (R89, R180), and
the 0xCB prefix row (R86). -/

namespace Sys2Proof.Machine

/-! ### Shared operations -/

/-- `NOP` (R168). -/
def State.nop (s : State) : State := s.finish 1 4

/-- `HALT` (R169). -/
def State.halt (s : State) : State := { s with halted := true }.finish 1 4

/-- `STOP` by `STOP_MODE` (R170). Its ignored byte is read with the instruction (`State.fetch`). -/
def State.stop (s : State) : State :=
  match s.cfg.stopMode with
  | .haltLike => { s with halted := true }.finish 2 4
  | .fault => s.raiseUndefined 0x10#8 false

/-- `DI` (R171). -/
def State.disableInterrupts (s : State) : State := { s with ime := false }.finish 1 4

/-- `EI` (R172): at once, no delay (R201). -/
def State.enableInterrupts (s : State) : State := { s with ime := true }.finish 1 4

/-- The instruction that the prefix and its second byte make together, by the fields x, y and z of
`op2` (R78, R86, R87). -/
def State.cbRow (s : State) (op2 : Byte) : State :=
  match xField op2 with
  | 0 => s.rotOperand (rotOpOf (yField op2)) (operand8Of (zField op2))
  | 1 => s.bitOperand (yField op2) (operand8Of (zField op2))
  | 2 => s.resOperand (yField op2) (operand8Of (zField op2))
  | 3 => s.setOperand (yField op2) (operand8Of (zField op2))

/-! ### The meanings, one per row of the opcode table -/

/-- `NOP` (R168). -/
def execNop (s : State) : Result := .next s.nop

/-- `STOP` (R170). -/
def execStop (_ignored : Byte) (s : State) : Result := .next s.stop

/-- `HALT` (R169). -/
def execHalt (s : State) : Result := .next s.halt

/-- the 0xCB prefix row with second byte `op2` (R86). -/
def execPrefix_CB (op2 : Byte) (s : State) : Result := .next (s.cbRow op2)

/-- opcode 0xD3, undefined (R89, R180). -/
def execUndefined_D3 (s : State) : Result := .next (s.raiseUndefined 0xD3#8 false)

/-- opcode 0xDB, undefined (R89, R180). -/
def execUndefined_DB (s : State) : Result := .next (s.raiseUndefined 0xDB#8 false)

/-- opcode 0xDD, undefined (R89, R180). -/
def execUndefined_DD (s : State) : Result := .next (s.raiseUndefined 0xDD#8 false)

/-- opcode 0xE3, undefined (R89, R180). -/
def execUndefined_E3 (s : State) : Result := .next (s.raiseUndefined 0xE3#8 false)

/-- opcode 0xE4, undefined (R89, R180). -/
def execUndefined_E4 (s : State) : Result := .next (s.raiseUndefined 0xE4#8 false)

/-- opcode 0xEB, undefined (R89, R180). -/
def execUndefined_EB (s : State) : Result := .next (s.raiseUndefined 0xEB#8 false)

/-- opcode 0xEC, undefined (R89, R180). -/
def execUndefined_EC (s : State) : Result := .next (s.raiseUndefined 0xEC#8 false)

/-- opcode 0xED, undefined (R89, R180). -/
def execUndefined_ED (s : State) : Result := .next (s.raiseUndefined 0xED#8 false)

/-- `DI` (R171). -/
def execDi (s : State) : Result := .next s.disableInterrupts

/-- opcode 0xF4, undefined (R89, R180). -/
def execUndefined_F4 (s : State) : Result := .next (s.raiseUndefined 0xF4#8 false)

/-- `EI` (R172). -/
def execEi (s : State) : Result := .next s.enableInterrupts

/-- opcode 0xFC, undefined (R89, R180). -/
def execUndefined_FC (s : State) : Result := .next (s.raiseUndefined 0xFC#8 false)

/-- opcode 0xFD, undefined (R89, R180). -/
def execUndefined_FD (s : State) : Result := .next (s.raiseUndefined 0xFD#8 false)

end Sys2Proof.Machine
end

