-- ==== Sys2Proof/Machine/Fetch.lean ====
section
/-! DEFINITION. Fetching an instruction from the bus (R58, R69, R86, R88, R91) and placing one where
the machine fetches. -/

namespace Sys2Proof.Machine

/-- Fetch at PC, one read transaction a byte, in increasing addresses (R58): the opcode; after 0xCB its
second byte; then the immediate bytes the opcode's format has. Under `STOP_MODE = Fault` the ignored
byte of STOP is not read (R170). PC does not change (R32). -/
def State.fetch (s : State) : Instr × State :=
  let r0 := s.busRead s.pc
  match cell r0.1 with
  | .op i => (i, r0.2)
  | .imm8 f =>
    let r1 := r0.2.busRead (s.pc + 1#16)
    (f r1.1, r1.2)
  | .imm16 f =>
    let r1 := r0.2.busRead (s.pc + 1#16)
    let r2 := r1.2.busRead (s.pc + 2#16)
    (f (joinBytes r2.1 r1.1), r2.2)
  | .stop =>
    match s.cfg.stopMode with
    | .fault => (.stop 0x00#8, r0.2)
    | .haltLike =>
      let r1 := r0.2.busRead (s.pc + 1#16)
      (.stop r1.1, r1.2)
  | .cb =>
    let r1 := r0.2.busRead (s.pc + 1#16)
    (cbInstr r1.1, r1.2)

/-- Store bytes at `a` and the addresses after it. -/
def Memory.placeBytes (m : Memory) (a : Word) (bytes : List Byte) : Memory :=
  match bytes with
  | [] => m
  | v :: rest => Memory.placeBytes (m.write a v) (a + 1#16) rest

/-- The state with a program's bytes loaded at PC and the core able to fetch them: no pending answer of
the bus or action of the environment comes before them, and the core is neither halted nor faulted. -/
def State.placeAtPC (s : State) (bytes : List Byte) : State :=
  { s with
    mem := s.mem.placeBytes s.pc bytes
    answers := []
    inputs := []
    halted := false
    fault := none }

end Sys2Proof.Machine
end

