-- ==== Sys2Proof/Machine/Driver.lean ====
section
/-! DEFINITION. The step driver (R176): one call of `step()`. -/

namespace Sys2Proof.Machine

/-- What comes before a step: the environment's actions (R61), and an empty trace for the step's own
transactions. -/
def State.beginStep (s : State) : State := { s.deliver with trace := [] }

/-- A halted tick (R177): nothing is fetched, PC stays, `HALT_TICK_CYCLES` are returned. -/
def State.haltTick (s : State) : State := { s with result := .ok haltTickCycles }

/-- What comes after execution: the interrupt controller (R185), but not after a fault (R180, R186). -/
def State.endStep (s : State) : State :=
  match s.fault with
  | none => s.boundary
  | some _ => s

/-- `endStep` on what a meaning answers. -/
def finishStep (r : Result) : Result :=
  match r with
  | .next t => .next t.endStep
  | .fault f => .fault f
  | .refused x => .refused x

/-- The step driver of R176 on a state to which the environment has done its actions. -/
def stepCore (s : State) : Result :=
  match s.fault with
  | some f => .next { s with result := .err f }
  | none =>
    if s.halted then .next s.haltTick.boundary
    else
      let r := s.fetch
      finishStep (exec r.1 r.2)

/-- One step: the environment's actions, then one call of `step()`. -/
def stepDriver (s : State) : Result := stepCore s.beginStep

end Sys2Proof.Machine
end

