-- ==== Sys2Proof/Machine/Step.lean ====
section
/-! DEFINITION. The step of the machine, and a program's bytes placed where the next step fetches. -/

namespace Sys2Proof.Machine

/-- One step (R61, R173, R176). -/
def step (s : State) : Host.Outcome State Fault Refusal := stepDriver s

/-- The state with the instruction of a word of the opcode table where the next step fetches it. -/
def State.withFetchWord (s : State) (nbits w : Nat) : State := s.placeAtPC (tableBytes nbits w)

end Sys2Proof.Machine
end

