-- ==== Sys2Proof/Safety.lean ====
section
/-! DEFINITION. What counts as a good state, in the terms claims use. -/

namespace Sys2Proof.Machine

/-- The core takes instructions: it has no fault and is not halted (R176). -/
abbrev State.Running (s : State) : Prop := s.fault = none ∧ s.halted = false

/-- The bus is the plain RAM of R67: no scripted answer is pending. -/
abbrev State.PlainRAM (s : State) : Prop := s.answers = []

/-- The faults a core with these parameters can record: the undefined opcodes of R89, never prefixed
(93, row 2), and STOP under `STOP_MODE = Fault` (R170, R179). -/
def Fault.Legal (cfg : Config) : Fault → Prop
  | .undefinedOpcode op prefixed =>
    prefixed = false ∧ (op ∈ undefinedOpcodes ∨ op = 0x10#8 ∧ cfg.stopMode = .fault)

/-- The invariant of the machine. The memory is canonical; the step port returns an error exactly while
the core is faulted, and it is the recorded fault (R180); a faulted core is not halted (the fault is
raised by a step that fetched, R176); a recorded fault is one of those R179 allows. -/
structure State.Inv (s : State) : Prop where
  memory : s.mem.wf
  reported : ∀ f, s.fault = some f ↔ s.result = .err f
  faultedNotHalted : ∀ f, s.fault = some f → s.halted = false
  legal : ∀ f, s.fault = some f → Fault.Legal s.cfg f

end Sys2Proof.Machine
end

