-- ==== Sys2Proof/Certificates/Slice0/Obligations.lean ====
section
/-! DEFINITION. The statements for the provers. A statement of an instruction gives its encoding, the
state it ends in as the old state with exactly the named fields changed (so every register, flag,
special state and byte of memory it does not name is unchanged), its bus transactions in order, and the
cycles it reports. Where it stores, the new memory is given by what reading any byte of it gives, the
address computed from the old state; there the memory's canonical form, kept by every step
(`InvariantKeptByStep`), is the premise. What a read gives is `State.busAnswer`: the next scripted
answer of the bus, else the byte of the RAM, so a statement holds for every bus (assumption 3); `trace`
and `result` are the model's own record of the bus transactions and of what the step port returns
(assumption 5). -/

namespace Sys2Proof.Claims
open Sys2Proof.Machine

/-! ### Field codes, from the rules' tables -/

/-- R72. -/
def regCode : Reg8 → Byte
  | .B => 0#8 | .C => 1#8 | .D => 2#8 | .E => 3#8 | .H => 4#8 | .L => 5#8 | .A => 7#8

/-- R72. -/
def operandCode : Operand8 → Byte
  | .reg r => regCode r
  | .mHL => 6#8

/-- R73. -/
def reg16Code : Reg16 → Byte
  | .BC => 0#8 | .DE => 1#8 | .HL => 2#8 | .SP => 3#8

/-- R74. -/
def stackCode : StackPair → Byte
  | .BC => 0#8 | .DE => 1#8 | .HL => 2#8 | .AF => 3#8

/-- R76. -/
def condCode : Cond → Byte
  | .NZ => 0#8 | .Z => 1#8 | .NC => 2#8 | .C => 3#8

/-- R77. -/
def aluCode : AluOp → Byte
  | .add => 0#8 | .adc => 1#8 | .sub => 2#8 | .sbc => 3#8
  | .and => 4#8 | .xor => 5#8 | .or => 6#8 | .cp => 7#8

/-- R78. -/
def rotCode : RotOp → Byte
  | .rlc => 0#8 | .rrc => 1#8 | .rl => 2#8 | .rr => 3#8
  | .sla => 4#8 | .sra => 5#8 | .swap => 6#8 | .srl => 7#8

/-- R76, R154: the condition on the flags. -/
def condHolds (cc : Cond) (f : Flags) : Prop :=
  match cc with
  | .NZ => f.z = false
  | .Z => f.z = true
  | .NC => f.c = false
  | .C => f.c = true

/-! ### What a store leaves, byte by byte -/

/-- Of a canonical memory `m`, exactly the byte at `a` has become `v`. -/
def StoresByte (m m' : Memory) (a : Word) (v : Byte) : Prop :=
  m.wf → ∀ b, m'.read b = if b = a then v else m.read b

/-- Of a canonical memory `m`, the byte at `a` has become `v`, then the byte at `a'` has become `v'`,
and no other byte has changed. -/
def StoresTwo (m m' : Memory) (a : Word) (v : Byte) (a' : Word) (v' : Byte) : Prop :=
  m.wf → ∀ b, m'.read b = if b = a' then v' else if b = a then v else m.read b

/-! ### The three forms of an ALU operation (R116) -/

/-- The operation `op` runs in the register, memory and immediate form, taking A and the flags to
`f s v`, where `v` is the operand of R116. -/
def AluRuns (op : AluOp) (f : State → Byte → Byte × Flags) : Prop :=
  ∀ s : State,
    (∀ r, encode (instrAlu op (.reg r)) = [0b10000000#8 ||| aluCode op <<< 3 ||| regCode r] ∧
      exec (instrAlu op (.reg r)) s =
        .next { s with
          a := (f s (s.reg r)).1, flags := (f s (s.reg r)).2
          pc := s.pc + 1#16, result := .ok 4 }) ∧
    (encode (instrAlu op .mHL) = [0b10000110#8 ||| aluCode op <<< 3] ∧
      exec (instrAlu op .mHL) s =
        .next { s with
          a := (f s (s.busAnswer s.hl)).1, flags := (f s (s.busAnswer s.hl)).2
          answers := s.answers.tail
          trace := s.trace ++ [.read s.hl (s.busAnswer s.hl)]
          pc := s.pc + 1#16, result := .ok 8 }) ∧
    (∀ v, encode (instrAluD8 op v) = [0b11000110#8 ||| aluCode op <<< 3, v] ∧
      exec (instrAluD8 op v) s =
        .next { s with a := (f s v).1, flags := (f s v).2, pc := s.pc + 2#16, result := .ok 8 })

/-- R117, R118 on numbers: `s = a + v + c`. -/
def sum8 (a v c : Nat) : Byte × Flags :=
  (BitVec.ofNat 8 ((a + v + c) % 256),
    { z := decide ((a + v + c) % 256 = 0), n := false
      h := decide (a % 16 + v % 16 + c > 15), c := decide (a + v + c > 255) })

/-- R119, R120 on numbers: `d = a - v - c`. -/
def difference8 (a v c : Int) : Byte × Flags :=
  (BitVec.ofNat 8 ((a - v - c) % 256).toNat,
    { z := decide ((a - v - c) % 256 = 0), n := true
      h := decide (a % 16 < v % 16 + c), c := decide (a < v + c) })

/-! ### CB-prefixed instructions on their operand (R142) -/

/-- A CB instruction with `op2` that writes its operand back runs in the register and the memory form:
the operand `v` becomes `(f s v).1` and the flags `(f s v).2` (R142). -/
def CbWrites (mk : Operand8 → Instr) (op2 : Byte) (f : State → Byte → Byte × Flags) : Prop :=
  ∀ s : State,
    (∀ r, encode (mk (.reg r)) = [0xCB#8, op2 ||| regCode r] ∧
      exec (mk (.reg r)) s =
        .next { s.setReg r (f s (s.reg r)).1 with
          flags := (f s (s.reg r)).2, pc := s.pc + 2#16, result := .ok 8 }) ∧
    (encode (mk .mHL) = [0xCB#8, op2 ||| 6#8] ∧
      ∃ m, exec (mk .mHL) s =
          .next { s with
            mem := m
            flags := (f s (s.busAnswer s.hl)).2
            answers := s.answers.tail
            trace := s.trace ++ [.read s.hl (s.busAnswer s.hl),
              .write s.hl (f s (s.busAnswer s.hl)).1]
            pc := s.pc + 2#16, result := .ok 16 } ∧
        StoresByte s.mem m s.hl (f s (s.busAnswer s.hl)).1)

/-- The result and the carry of each rotate and shift on numbers (R143 to R150). -/
def rotNumber (op : RotOp) (v c : Nat) : Nat × Bool :=
  match op with
  | .rlc => (v * 2 % 256 + v / 128, decide (v ≥ 128))
  | .rrc => (v / 2 + v % 2 * 128, decide (v % 2 = 1))
  | .rl => (v * 2 % 256 + c, decide (v ≥ 128))
  | .rr => (v / 2 + c * 128, decide (v % 2 = 1))
  | .sla => (v * 2 % 256, decide (v ≥ 128))
  | .sra => (v / 2 + v / 128 * 128, decide (v % 2 = 1))
  | .swap => (v % 16 * 16 + v / 16, false)
  | .srl => (v / 2, decide (v % 2 = 1))

/-- Packed BCD of a number below 100. -/
def bcd (n : Nat) : Byte := BitVec.ofNat 8 (n / 10 * 16 + n % 10)

/-! ### The fetch window and the scan -/

/-- The bytes the bus would answer to the reads of PC, PC + 1 and PC + 2, in turn. -/
def window (s : State) : List Byte :=
  [s.busAnswer s.pc, (s.afterRead s.pc).busAnswer (s.pc + 1#16),
    ((s.afterRead s.pc).afterRead (s.pc + 1#16)).busAnswer (s.pc + 2#16)]

/-- The state when `n` bytes of the instruction at PC have been fetched, each by one read transaction
at increasing addresses (R58). -/
def fetched (s : State) (n : Nat) : State :=
  { s with
    answers := s.answers.drop n
    trace := ((window s).take n).zipIdx.map
      (fun x => BusOp.read (s.pc + BitVec.ofNat 16 x.2) x.1) }

/-- What the scan reads as IE (R183). -/
def scanIE (s : State) : Byte := s.busAnswer s.cfg.ieAddr

/-- What the scan reads as IF, after IE (R183). -/
def scanIF (s : State) : Byte := (s.afterRead s.cfg.ieAddr).busAnswer s.cfg.ifAddr

/-- The line is pending and enabled in what the scan reads (R183); bits 7 to 5 name no line. -/
def pending (s : State) (line : Line) : Bool :=
  bitAt (scanIE s) (lineBit line) && bitAt (scanIF s) (lineBit line)

/-! ### Which instructions write what (R30, R40, R55), by opcode -/

/-- The first byte of an instruction, as a number. -/
def op1 (i : Instr) : Nat := ((encode i).headD 0x00#8).toNat

/-- The second byte of a CB instruction, as a number. -/
def op2 (i : Instr) : Nat := ((encode i).getD 1 0x00#8).toNat

/-- The instructions that write a flag (R40): of the CB page the rotates, shifts and BIT; the ALU
operations; INC r, DEC r, INC (HL), DEC (HL); the accumulator rotates, DAA, CPL, SCF, CCF; ADD HL,rr;
ADD SP,e8; LD HL,SP+e8; POP AF. -/
def writesFlags (i : Instr) : Bool :=
  if op1 i = 0xCB then decide (op2 i < 0x80)
  else decide (0x80 ≤ op1 i ∧ op1 i ≤ 0xBF) || decide (op1 i ≥ 0xC0 ∧ op1 i % 8 = 6) ||
    decide (op1 i < 0x40 ∧ (op1 i % 8 = 4 ∨ op1 i % 8 = 5 ∨ op1 i % 8 = 7 ∨ op1 i % 16 = 9)) ||
    decide (op1 i = 0xE8 ∨ op1 i = 0xF8 ∨ op1 i = 0xF1)

/-- The instructions that store to memory (R55): LD (HL),r; LD (HL),d8; LD (rr),A; LDH (a8),A;
LD (C),A; LD (a16),A; LD (a16),SP; INC (HL); DEC (HL); the CB operations on (HL) but BIT; PUSH; CALL
and CALL cc; RST. -/
def storesMemory (i : Instr) : Bool :=
  if op1 i = 0xCB then decide (op2 i % 8 = 6 ∧ ¬(0x40 ≤ op2 i ∧ op2 i < 0x80))
  else decide (0x70 ≤ op1 i ∧ op1 i ≤ 0x77 ∧ op1 i ≠ 0x76) ||
    decide (op1 i ∈ [0x02, 0x12, 0x22, 0x32, 0x08, 0x34, 0x35, 0x36, 0xE0, 0xE2, 0xEA, 0xC5, 0xD5,
      0xE5, 0xF5, 0xCD, 0xC4, 0xCC, 0xD4, 0xDC]) ||
    decide (op1 i ≥ 0xC0 ∧ op1 i % 8 = 7)

/-- The instructions that write SP (R30): LD SP,d16; LD SP,HL; INC SP; DEC SP; ADD SP,e8; PUSH; POP;
CALL; RET; RETI; RST. -/
def writesSP (i : Instr) : Bool :=
  decide (op1 i ∈ [0x31, 0xF9, 0x33, 0x3B, 0xE8, 0xC5, 0xD5, 0xE5, 0xF5, 0xC1, 0xD1, 0xE1, 0xF1,
    0xCD, 0xC4, 0xCC, 0xD4, 0xDC, 0xC9, 0xC0, 0xC8, 0xD0, 0xD8, 0xD9]) ||
  decide (op1 i ≥ 0xC0 ∧ op1 i % 8 = 7)

/-- The instructions that write the register (R30). For A: LD A,·; the ALU operations but CP; INC A,
DEC A; DAA; CPL; the accumulator rotates; CB operations on A but BIT; POP AF; the loads of A from
memory. For the others: LD r,·; INC r, DEC r; CB operations on r but BIT; POP of the pair; LD rr,d16;
INC rr, DEC rr; and for H and L also ADD HL,rr, LD HL,SP+e8 and the (HL+) and (HL-) forms. -/
def writesReg (i : Instr) (r : Reg8) : Bool :=
  let y := (regCode r).toNat
  let o := op1 i
  if o = 0xCB then decide (op2 i % 8 = y ∧ ¬(0x40 ≤ op2 i ∧ op2 i < 0x80))
  else
    decide (0x40 ≤ o ∧ o < 0x80 ∧ o / 8 % 8 = y) ||
    decide (o < 0x40 ∧ o / 8 = y ∧ (o % 8 = 4 ∨ o % 8 = 5 ∨ o % 8 = 6)) ||
    (match r with
     | .A => decide (0x80 ≤ o ∧ o < 0xB8) || decide (o ≥ 0xC0 ∧ o % 8 = 6 ∧ o ≠ 0xFE) ||
        decide (o ∈ [0x07, 0x17, 0x0F, 0x1F, 0x27, 0x2F, 0xF1, 0x0A, 0x1A, 0x2A, 0x3A, 0xF0, 0xF2,
          0xFA])
     | .B | .C => decide (o ∈ [0x01, 0x03, 0x0B, 0xC1])
     | .D | .E => decide (o ∈ [0x11, 0x13, 0x1B, 0xD1])
     | .H | .L => decide (o ∈ [0x21, 0x23, 0x2B, 0xE1, 0x09, 0x19, 0x29, 0x39, 0xF8, 0x22, 0x32,
          0x2A, 0x3A]))

end Sys2Proof.Claims

open Sys2Proof Sys2Proof.Machine Sys2Proof.Claims

/-! ### Encoding -/

/-- Decoding the words of a well-formed instruction, whatever follows them, gives it back, with every
operand at every value. -/
def Obligations.DecodeOfEncodeGivesInstructionBack : Prop :=
  ∀ (i : Instr) (rest : List Byte), i.wellFormed = true → decode (encode i ++ rest) = .ok i rest

/-- Whatever the decoder accepts is the encoding of the well-formed instruction it answers, followed
by the bytes it leaves: no bit of the words is dropped. -/
def Obligations.DecodedBytesAreTheEncoding : Prop :=
  ∀ (bytes : List Byte) (i : Instr) (rest : List Byte), decode bytes = .ok i rest →
    i.wellFormed = true ∧ bytes = encode i ++ rest

/-- R70: how many bytes a defined instruction has is a function of its first byte, by R70's lists;
decoding fewer bytes refuses. That STOP has two bytes is the spec's choice D17. -/
def Obligations.LengthIsFunctionOfFirstByte : Prop :=
  ∀ (op : Byte) (bytes : List Byte),
    (lengthOf op ≤ bytes.length + 1 →
      ∃ i rest, decode (op :: bytes) = .ok i rest ∧ rest.length + lengthOf op = bytes.length + 1) ∧
    (bytes.length + 1 < lengthOf op → decode (op :: bytes) = .refused (.truncated op))

/-- R89: the undefined opcodes are exactly the eleven bytes of the unprefixed page; no pair 0xCB, op2
is undefined; 0xFF is RST 0x38. -/
def Obligations.UndefinedOpcodesAreExactlyEleven : Prop :=
  (∀ (op : Byte) (bytes : List Byte) (i : Instr) (rest : List Byte),
    decode (op :: bytes) = .ok i rest → (i.isUndefined = true ↔ op ∈ undefinedOpcodes)) ∧
  (∀ (op2 : Byte) (bytes : List Byte),
    ∃ i, decode (0xCB#8 :: op2 :: bytes) = .ok i bytes ∧ i.isUndefined = false) ∧
  (∀ bytes, decode (0xFF#8 :: bytes) = .ok .rst_38 bytes) ∧
  undefinedOpcodes = [0xD3#8, 0xDB#8, 0xDD#8, 0xE3#8, 0xE4#8, 0xEB#8, 0xEC#8, 0xED#8, 0xF4#8, 0xFC#8,
    0xFD#8]

/-- Words written out from the spec's encodings decode to the instructions they stand for. -/
def Obligations.SpecWordsDecode : Prop :=
  decode [0b10000000#8] = .ok .add_A_B [] ∧
  decode [0b11000101#8] = .ok .push_BC [] ∧
  decode [0b01100110#8] = .ok .ld_H_mHL [] ∧
  decode [0b00110001#8, 0xFE#8, 0xFF#8] = .ok (.ld_SP_d16 0xFFFE#16) [] ∧
  decode [0b11001011#8, 0b00110111#8] = .ok .swap_A [] ∧
  decode [0b11001011#8, 0b01111100#8] = .ok .bit_7_H [] ∧
  decode [0b00100000#8, 0b11111110#8] = .ok (.jr_NZ_e8 0xFE#8) [] ∧
  decode [0b11101111#8] = .ok .rst_28 []

/-- R86, R87: the prefix row with second byte `op2` runs as the CB row that the two bytes decode to. -/
def Obligations.PrefixRowRunsTheSelectedRow : Prop :=
  ∀ (op2 : Byte) (i : Instr) (rest : List Byte) (s : State),
    decode (encode (.prefix_CB op2) ++ rest) = .ok i rest →
      exec (.prefix_CB op2) s = exec i s ∧ ∃ t, exec (.prefix_CB op2) s = .next t

/-! ### Registers, pairs, memory -/

/-- R17's byte functions on numbers: `hi(w) = w[15:8]`, `lo(w) = w[7:0]`, `hi:lo = hi*256 + lo`,
`sext_16(v) = v` if `v < 0x80` else `v + 0xFF00`. -/
def Obligations.ByteFunctionsAreTheSpecs : Prop :=
  ∀ (w : Word) (h l : Byte),
    (hiByte w).toNat = w.toNat / 256 ∧ (loByte w).toNat = w.toNat % 256 ∧
    (joinBytes h l).toNat = h.toNat * 256 + l.toNat ∧
    (sext16 l).toNat = (if l.toNat < 0x80 then l.toNat else l.toNat + 0xFF00) ∧
    (highPage l).toNat = 0xFF00 + l.toNat

/-- R25, R26, R27: a register written reads as written and no other register, flag, special state or
byte of memory changes; a pair is its two registers, the first-named the high byte, for the operands of
R73 and for PUSH and POP alike; F's low nibble reads as 0 and is dropped when AF is written (R35). -/
def Obligations.RegisterAndPairWritesAreExact : Prop :=
  ∀ (s : State) (v : Byte) (w : Word),
    (∀ r q, (s.setReg r v).reg q = if q = r then v else s.reg q) ∧
    (∀ r, s.setReg r v =
      { s with
        a := (s.setReg r v).a, b := (s.setReg r v).b, c := (s.setReg r v).c, d := (s.setReg r v).d
        e := (s.setReg r v).e, h := (s.setReg r v).h, l := (s.setReg r v).l }) ∧
    (∀ rr, (s.setReg16 rr w).reg16 rr = w) ∧
    (s.reg16 .BC = joinBytes (s.reg .B) (s.reg .C) ∧ s.reg16 .DE = joinBytes (s.reg .D) (s.reg .E) ∧
      s.reg16 .HL = joinBytes (s.reg .H) (s.reg .L) ∧ s.reg16 .SP = s.sp) ∧
    (s.stackPair .BC = s.reg16 .BC ∧ s.stackPair .DE = s.reg16 .DE ∧ s.stackPair .HL = s.reg16 .HL ∧
      s.stackPair .AF = joinBytes (s.reg .A) s.flags.toByte) ∧
    s.setReg16 .BC w = (s.setReg .B (hiByte w)).setReg .C (loByte w) ∧
    s.setReg16 .DE w = (s.setReg .D (hiByte w)).setReg .E (loByte w) ∧
    s.setReg16 .HL w = (s.setReg .H (hiByte w)).setReg .L (loByte w) ∧
    s.setReg16 .SP w = { s with sp := w } ∧
    (s.setStackPair .BC w = s.setReg16 .BC w ∧ s.setStackPair .DE w = s.setReg16 .DE w ∧
      s.setStackPair .HL w = s.setReg16 .HL w) ∧
    s.setStackPair .AF w =
      { s with a := hiByte w, flags := (s.setStackPair .AF w).flags } ∧
    (s.setStackPair .AF w).flags.toByte = loByte w &&& 0xF0#8 ∧
    s.flags.toByte.toNat = s.flags.z.toNat * 0x80 + s.flags.n.toNat * 0x40 + s.flags.h.toNat * 0x20 +
      s.flags.c.toNat * 0x10

/-- Two canonical memories that read alike at every address are equal data. -/
def Obligations.CanonicalMemoriesAreEqualByReads : Prop :=
  ∀ m m' : Memory, m.wf → m'.wf → (∀ a, m.read a = m'.read a) → m = m'

/-! ### Loads and stores -/

/-- R93, R94: a register from a register, or from the byte at the old HL. -/
def Obligations.LoadRegister : Prop :=
  ∀ (d : Reg8) (s : State),
    (∀ r, encode (instrLdRR d r) = [0b01000000#8 ||| regCode d <<< 3 ||| regCode r] ∧
      exec (instrLdRR d r) s =
        .next { s.setReg d (s.reg r) with pc := s.pc + 1#16, result := .ok 4 }) ∧
    (encode (instrLdRM d) = [0b01000110#8 ||| regCode d <<< 3] ∧
      exec (instrLdRM d) s =
        .next { s.setReg d (s.busAnswer s.hl) with
          answers := s.answers.tail
          trace := s.trace ++ [.read s.hl (s.busAnswer s.hl)]
          pc := s.pc + 1#16, result := .ok 8 })

/-- R95. -/
def Obligations.StoreRegisterToMemoryAtHL : Prop :=
  ∀ (r : Reg8) (s : State),
    encode (instrLdMR r) = [0b01110000#8 ||| regCode r] ∧
    ∃ m, exec (instrLdMR r) s =
        .next { s with
          mem := m
          trace := s.trace ++ [.write s.hl (s.reg r)]
          pc := s.pc + 1#16, result := .ok 8 } ∧
      StoresByte s.mem m s.hl (s.reg r)

/-- R96, R97. -/
def Obligations.LoadAndStoreImmediate : Prop :=
  ∀ (v : Byte) (s : State),
    (∀ d, encode (instrLdRD8 d v) = [0b00000110#8 ||| regCode d <<< 3, v] ∧
      exec (instrLdRD8 d v) s = .next { s.setReg d v with pc := s.pc + 2#16, result := .ok 8 }) ∧
    (encode (.ld_mHL_d8 v) = [0x36#8, v] ∧
      ∃ m, exec (.ld_mHL_d8 v) s =
          .next { s with
            mem := m, trace := s.trace ++ [.write s.hl v], pc := s.pc + 2#16, result := .ok 12 } ∧
        StoresByte s.mem m s.hl v)

/-- R98, R102, R103: A from the byte at BC, DE or the old HL; HL then stepped by the last two. -/
def Obligations.LoadAccumulatorThroughPair : Prop :=
  ∀ s : State,
    (encode .ld_A_mBC = [0x0A#8] ∧ exec .ld_A_mBC s =
      .next { s with
        a := s.busAnswer s.bc, answers := s.answers.tail
        trace := s.trace ++ [.read s.bc (s.busAnswer s.bc)], pc := s.pc + 1#16, result := .ok 8 }) ∧
    (encode .ld_A_mDE = [0x1A#8] ∧ exec .ld_A_mDE s =
      .next { s with
        a := s.busAnswer s.de, answers := s.answers.tail
        trace := s.trace ++ [.read s.de (s.busAnswer s.de)], pc := s.pc + 1#16, result := .ok 8 }) ∧
    (encode .ld_A_mHLinc = [0x2A#8] ∧ exec .ld_A_mHLinc s =
      .next { s with
        a := s.busAnswer s.hl, h := hiByte (s.hl + 1#16), l := loByte (s.hl + 1#16)
        answers := s.answers.tail
        trace := s.trace ++ [.read s.hl (s.busAnswer s.hl)], pc := s.pc + 1#16, result := .ok 8 }) ∧
    (encode .ld_A_mHLdec = [0x3A#8] ∧ exec .ld_A_mHLdec s =
      .next { s with
        a := s.busAnswer s.hl, h := hiByte (s.hl - 1#16), l := loByte (s.hl - 1#16)
        answers := s.answers.tail
        trace := s.trace ++ [.read s.hl (s.busAnswer s.hl)], pc := s.pc + 1#16, result := .ok 8 })

/-- R99, R100, R101: A to the byte at BC, DE or the old HL; HL then stepped by the last two. -/
def Obligations.StoreAccumulatorThroughPair : Prop :=
  ∀ s : State,
    (encode .ld_mBC_A = [0x02#8] ∧ ∃ m, exec .ld_mBC_A s =
        .next { s with
          mem := m, trace := s.trace ++ [.write s.bc s.a], pc := s.pc + 1#16, result := .ok 8 } ∧
      StoresByte s.mem m s.bc s.a) ∧
    (encode .ld_mDE_A = [0x12#8] ∧ ∃ m, exec .ld_mDE_A s =
        .next { s with
          mem := m, trace := s.trace ++ [.write s.de s.a], pc := s.pc + 1#16, result := .ok 8 } ∧
      StoresByte s.mem m s.de s.a) ∧
    (encode .ld_mHLinc_A = [0x22#8] ∧ ∃ m, exec .ld_mHLinc_A s =
        .next { s with
          mem := m, h := hiByte (s.hl + 1#16), l := loByte (s.hl + 1#16)
          trace := s.trace ++ [.write s.hl s.a], pc := s.pc + 1#16, result := .ok 8 } ∧
      StoresByte s.mem m s.hl s.a) ∧
    (encode .ld_mHLdec_A = [0x32#8] ∧ ∃ m, exec .ld_mHLdec_A s =
        .next { s with
          mem := m, h := hiByte (s.hl - 1#16), l := loByte (s.hl - 1#16)
          trace := s.trace ++ [.write s.hl s.a], pc := s.pc + 1#16, result := .ok 8 } ∧
      StoresByte s.mem m s.hl s.a)

/-- R104 to R107: A to and from the high page `0xFF00 + n`, `n` an immediate or C. -/
def Obligations.HighPageTransfers : Prop :=
  ∀ (n : Byte) (s : State),
    (encode (.ldh_ma8_A n) = [0xE0#8, n] ∧ ∃ m, exec (.ldh_ma8_A n) s =
        .next { s with
          mem := m, trace := s.trace ++ [.write (BitVec.ofNat 16 (0xFF00 + n.toNat)) s.a]
          pc := s.pc + 2#16, result := .ok 12 } ∧
      StoresByte s.mem m (BitVec.ofNat 16 (0xFF00 + n.toNat)) s.a) ∧
    (encode (.ldh_A_ma8 n) = [0xF0#8, n] ∧ exec (.ldh_A_ma8 n) s =
      .next { s with
        a := s.busAnswer (BitVec.ofNat 16 (0xFF00 + n.toNat)), answers := s.answers.tail
        trace := s.trace ++ [.read (BitVec.ofNat 16 (0xFF00 + n.toNat))
          (s.busAnswer (BitVec.ofNat 16 (0xFF00 + n.toNat)))]
        pc := s.pc + 2#16, result := .ok 12 }) ∧
    (encode .ld_mC_A = [0xE2#8] ∧ ∃ m, exec .ld_mC_A s =
        .next { s with
          mem := m, trace := s.trace ++ [.write (BitVec.ofNat 16 (0xFF00 + s.c.toNat)) s.a]
          pc := s.pc + 1#16, result := .ok 8 } ∧
      StoresByte s.mem m (BitVec.ofNat 16 (0xFF00 + s.c.toNat)) s.a) ∧
    (encode .ld_A_mC = [0xF2#8] ∧ exec .ld_A_mC s =
      .next { s with
        a := s.busAnswer (BitVec.ofNat 16 (0xFF00 + s.c.toNat)), answers := s.answers.tail
        trace := s.trace ++ [.read (BitVec.ofNat 16 (0xFF00 + s.c.toNat))
          (s.busAnswer (BitVec.ofNat 16 (0xFF00 + s.c.toNat)))]
        pc := s.pc + 1#16, result := .ok 8 })

/-- R108, R109, R111: A to and from an absolute address; SP to one, low byte first (D10). The words of a
16-bit immediate are its low byte, then its high byte (R81). -/
def Obligations.AbsoluteTransfers : Prop :=
  ∀ (w : Word) (s : State),
    (encode (.ld_ma16_A w) = [0xEA#8, loByte w, hiByte w] ∧ ∃ m, exec (.ld_ma16_A w) s =
        .next { s with
          mem := m, trace := s.trace ++ [.write w s.a], pc := s.pc + 3#16, result := .ok 16 } ∧
      StoresByte s.mem m w s.a) ∧
    (encode (.ld_A_ma16 w) = [0xFA#8, loByte w, hiByte w] ∧ exec (.ld_A_ma16 w) s =
      .next { s with
        a := s.busAnswer w, answers := s.answers.tail
        trace := s.trace ++ [.read w (s.busAnswer w)], pc := s.pc + 3#16, result := .ok 16 }) ∧
    (encode (.ld_ma16_SP w) = [0x08#8, loByte w, hiByte w] ∧ ∃ m, exec (.ld_ma16_SP w) s =
        .next { s with
          mem := m
          trace := s.trace ++ [.write w (loByte s.sp), .write (w + 1#16) (hiByte s.sp)]
          pc := s.pc + 3#16, result := .ok 20 } ∧
      StoresTwo s.mem m w (loByte s.sp) (w + 1#16) (hiByte s.sp))

/-- R110, R112: a pair or SP from an immediate; SP from HL. -/
def Obligations.SixteenBitRegisterLoads : Prop :=
  ∀ (w : Word) (s : State),
    (∀ rr, encode (instrLdRrD16 rr w) = [0b00000001#8 ||| reg16Code rr <<< 4, loByte w, hiByte w] ∧
      exec (instrLdRrD16 rr w) s =
        .next { s.setReg16 rr w with pc := s.pc + 3#16, result := .ok 12 }) ∧
    (encode .ld_SP_HL = [0xF9#8] ∧
      exec .ld_SP_HL s = .next { s with sp := s.hl, pc := s.pc + 1#16, result := .ok 8 })

/-- R113: the high byte at SP - 1, then the low byte at SP - 2; F's low nibble is stored as 0. -/
def Obligations.PushStoresHighThenLow : Prop :=
  ∀ (rr : StackPair) (s : State),
    encode (instrPush rr) = [0b11000101#8 ||| stackCode rr <<< 4] ∧
    (∃ m, exec (instrPush rr) s =
        .next { s with
          mem := m, sp := s.sp - 2#16
          trace := s.trace ++ [.write (s.sp - 1#16) (hiByte (s.stackPair rr)),
            .write (s.sp - 2#16) (loByte (s.stackPair rr))]
          pc := s.pc + 1#16, result := .ok 16 } ∧
      StoresTwo s.mem m (s.sp - 1#16) (hiByte (s.stackPair rr))
        (s.sp - 2#16) (loByte (s.stackPair rr))) ∧
    loByte (s.stackPair .AF) &&& 0x0F#8 = 0#8

/-- R114: the low byte from SP, then the high byte from SP + 1; POP AF writes the four flags from the
low byte's top nibble and A, no other POP writes a flag. -/
def Obligations.PopLoadsLowThenHigh : Prop :=
  ∀ (rr : StackPair) (s : State),
    let lo8 := s.busAnswer s.sp
    let hi8 := (s.afterRead s.sp).busAnswer (s.sp + 1#16)
    encode (instrPop rr) = [0b11000001#8 ||| stackCode rr <<< 4] ∧
    exec (instrPop rr) s =
      .next { (match rr with
               | .BC => { s with b := hi8, c := lo8 }
               | .DE => { s with d := hi8, e := lo8 }
               | .HL => { s with h := hi8, l := lo8 }
               | .AF => { s with
                   a := hi8
                   flags := { z := lo8.getLsbD 7, n := lo8.getLsbD 6
                              h := lo8.getLsbD 5, c := lo8.getLsbD 4 } } : State) with
        sp := s.sp + 2#16
        answers := s.answers.drop 2
        trace := s.trace ++ [.read s.sp lo8, .read (s.sp + 1#16) hi8]
        pc := s.pc + 1#16, result := .ok 12 }

/-- R114: on the plain RAM, PUSH of a pair and POP of the same pair restore the pair and SP exactly,
wherever the stack stands, and leave every other register and the flags. -/
def Obligations.PushThenPopRestores : Prop :=
  ∀ (rr : StackPair) (s : State), s.mem.wf → s.PlainRAM →
    ∃ t u, exec (instrPush rr) s = .next t ∧ exec (instrPop rr) t = .next u ∧
      u = { s with mem := t.mem, trace := u.trace, pc := s.pc + 2#16, result := .ok 12 }

/-! ### 8-bit arithmetic and logic -/

/-- R116, R117, R118. -/
def Obligations.AddAndAddWithCarry : Prop :=
  AluRuns .add (fun s v => sum8 s.a.toNat v.toNat 0) ∧
  AluRuns .adc (fun s v => sum8 s.a.toNat v.toNat s.flags.c.toNat)

/-- R116, R119, R120, R121: CP leaves A. -/
def Obligations.SubtractAndCompare : Prop :=
  AluRuns .sub (fun s v => difference8 s.a.toNat v.toNat 0) ∧
  AluRuns .sbc (fun s v => difference8 s.a.toNat v.toNat s.flags.c.toNat) ∧
  AluRuns .cp (fun s v => (s.a, (difference8 s.a.toNat v.toNat 0).2))

/-- R116, R122, R123, R124. -/
def Obligations.BitwiseLogic : Prop :=
  AluRuns .and (fun s v => (s.a &&& v, ⟨decide (s.a &&& v = 0#8), false, true, false⟩)) ∧
  AluRuns .xor (fun s v => (s.a ^^^ v, ⟨decide (s.a ^^^ v = 0#8), false, false, false⟩)) ∧
  AluRuns .or (fun s v => (s.a ||| v, ⟨decide (s.a ||| v = 0#8), false, false, false⟩))

/-- R125, R126: `o + 1`, flags `Z 0 H -`. -/
def Obligations.IncrementByte : Prop :=
  ∀ s : State,
    (∀ r, encode (instrInc (.reg r)) = [0b00000100#8 ||| regCode r <<< 3] ∧
      exec (instrInc (.reg r)) s =
        .next { s.setReg r (BitVec.ofNat 8 (((s.reg r).toNat + 1) % 256)) with
          flags := { s.flags with
            z := decide (((s.reg r).toNat + 1) % 256 = 0), n := false
            h := decide ((s.reg r).toNat % 16 = 15) }
          pc := s.pc + 1#16, result := .ok 4 }) ∧
    (let o := s.busAnswer s.hl
     encode (instrInc .mHL) = [0x34#8] ∧
      ∃ m, exec (instrInc .mHL) s =
          .next { s with
            mem := m
            flags := { s.flags with
              z := decide ((o.toNat + 1) % 256 = 0), n := false, h := decide (o.toNat % 16 = 15) }
            answers := s.answers.tail
            trace := s.trace ++ [.read s.hl o, .write s.hl (BitVec.ofNat 8 ((o.toNat + 1) % 256))]
            pc := s.pc + 1#16, result := .ok 12 } ∧
        StoresByte s.mem m s.hl (BitVec.ofNat 8 ((o.toNat + 1) % 256)))

/-- R127, R128: `o - 1`, flags `Z 1 H -`. -/
def Obligations.DecrementByte : Prop :=
  ∀ s : State,
    (∀ r, encode (instrDec (.reg r)) = [0b00000101#8 ||| regCode r <<< 3] ∧
      exec (instrDec (.reg r)) s =
        .next { s.setReg r (BitVec.ofNat 8 (((s.reg r).toNat + 255) % 256)) with
          flags := { s.flags with
            z := decide ((s.reg r).toNat = 1), n := true
            h := decide ((s.reg r).toNat % 16 = 0) }
          pc := s.pc + 1#16, result := .ok 4 }) ∧
    (let o := s.busAnswer s.hl
     encode (instrDec .mHL) = [0x35#8] ∧
      ∃ m, exec (instrDec .mHL) s =
          .next { s with
            mem := m
            flags := { s.flags with
              z := decide (o.toNat = 1), n := true, h := decide (o.toNat % 16 = 0) }
            answers := s.answers.tail
            trace := s.trace ++ [.read s.hl o, .write s.hl (BitVec.ofNat 8 ((o.toNat + 255) % 256))]
            pc := s.pc + 1#16, result := .ok 12 } ∧
        StoresByte s.mem m s.hl (BitVec.ofNat 8 ((o.toNat + 255) % 256)))

/-- R129, on numbers: the corrections after an addition and after a subtraction. -/
def Obligations.DecimalAdjust : Prop :=
  ∀ s : State,
    let a := s.a.toNat
    let high := s.flags.c = true ∨ a > 0x99
    let low := s.flags.h = true ∨ a % 16 > 9
    encode .daa = [0x27#8] ∧
    ∃ r : Byte,
      exec .daa s =
        .next { s with
          a := r
          flags := { s.flags with
            z := decide (r = 0#8), h := false
            c := if s.flags.n = true then s.flags.c else decide high }
          pc := s.pc + 1#16, result := .ok 4 } ∧
      (s.flags.n = false →
        r.toNat = (a + (if high then 0x60 else 0) + (if low then 0x06 else 0)) % 256) ∧
      (s.flags.n = true →
        (r.toNat : Int) = ((a : Int) - (if s.flags.c = true then 0x60 else 0) -
          (if s.flags.h = true then 0x06 else 0)) % 256)

/-- R129: DAA after ADC of two packed-BCD bytes gives the BCD of the decimal sum, with C the decimal
overflow and Z a zero result; ADD is the case of no incoming carry. -/
def Obligations.DecimalAdditionIsDecimal : Prop :=
  ∀ (x y : Nat) (s : State), x < 100 → y < 100 → s.a = bcd x →
    ∃ t u, exec (.adc_A_d8 (bcd y)) s = .next t ∧ exec .daa t = .next u ∧
      u.a = bcd ((x + y + s.flags.c.toNat) % 100) ∧
      u.flags.c = decide (x + y + s.flags.c.toNat ≥ 100) ∧
      u.flags.z = decide ((x + y + s.flags.c.toNat) % 100 = 0)

/-- R130, R131, R132. -/
def Obligations.ComplementAndCarryOperations : Prop :=
  ∀ s : State,
    (encode .cpl = [0x2F#8] ∧ exec .cpl s =
      .next { s with
        a := BitVec.ofNat 8 (0xFF - s.a.toNat), flags := ⟨s.flags.z, true, true, s.flags.c⟩
        pc := s.pc + 1#16, result := .ok 4 }) ∧
    (encode .scf = [0x37#8] ∧ exec .scf s =
      .next { s with
        flags := ⟨s.flags.z, false, false, true⟩, pc := s.pc + 1#16, result := .ok 4 }) ∧
    (encode .ccf = [0x3F#8] ∧ exec .ccf s =
      .next { s with
        flags := ⟨s.flags.z, false, false, !s.flags.c⟩, pc := s.pc + 1#16, result := .ok 4 })

/-! ### 16-bit arithmetic -/

/-- R133: flags `- 0 H C` from bits 11 and 15. -/
def Obligations.AddToHL : Prop :=
  ∀ (rr : Reg16) (s : State),
    let h := s.hl.toNat
    let v := (s.reg16 rr).toNat
    encode (instrAddHL rr) = [0b00001001#8 ||| reg16Code rr <<< 4] ∧
    exec (instrAddHL rr) s =
      .next { s.setReg16 .HL (BitVec.ofNat 16 ((h + v) % 65536)) with
        flags := { s.flags with
          n := false, h := decide (h % 4096 + v % 4096 > 4095), c := decide (h + v > 65535) }
        pc := s.pc + 1#16, result := .ok 8 }

/-- R134, R135: no flag is written. -/
def Obligations.IncrementAndDecrementPair : Prop :=
  ∀ (rr : Reg16) (s : State),
    (encode (instrIncRr rr) = [0b00000011#8 ||| reg16Code rr <<< 4] ∧
      exec (instrIncRr rr) s =
        .next { s.setReg16 rr (BitVec.ofNat 16 (((s.reg16 rr).toNat + 1) % 65536)) with
          pc := s.pc + 1#16, result := .ok 8 }) ∧
    (encode (instrDecRr rr) = [0b00001011#8 ||| reg16Code rr <<< 4] ∧
      exec (instrDecRr rr) s =
        .next { s.setReg16 rr (BitVec.ofNat 16 (((s.reg16 rr).toNat + 65535) % 65536)) with
          pc := s.pc + 1#16, result := .ok 8 })

/-- R136, R137: the displacement is signed, H and C come from the unsigned addition of the low bytes,
Z and N are cleared. -/
def Obligations.StackPointerPlusDisplacement : Prop :=
  ∀ (e : Byte) (s : State),
    let r := BitVec.ofInt 16 ((s.sp.toNat : Int) + e.toInt)
    let f : Flags :=
      { z := false, n := false
        h := decide (s.sp.toNat % 16 + e.toNat % 16 > 15)
        c := decide (s.sp.toNat % 256 + e.toNat > 255) }
    (encode (.add_SP_e8 e) = [0xE8#8, e] ∧ exec (.add_SP_e8 e) s =
      .next { s with sp := r, flags := f, pc := s.pc + 2#16, result := .ok 16 }) ∧
    (encode (.ld_HL_SPe8 e) = [0xF8#8, e] ∧ exec (.ld_HL_SPe8 e) s =
      .next { s.setReg16 .HL r with flags := f, pc := s.pc + 2#16, result := .ok 12 })

/-! ### Rotates, shifts, single bits -/

/-- R138 to R141: flags `0 0 0 C`, Z cleared whatever the result. -/
def Obligations.AccumulatorRotates : Prop :=
  ∀ s : State,
    let runs := fun (i : Instr) (op : Byte) (k : RotOp) =>
      encode i = [op] ∧ exec i s =
        .next { s with
          a := BitVec.ofNat 8 (rotNumber k s.a.toNat s.flags.c.toNat).1
          flags := ⟨false, false, false, (rotNumber k s.a.toNat s.flags.c.toNat).2⟩
          pc := s.pc + 1#16, result := .ok 4 }
    runs .rlca 0x07#8 .rlc ∧ runs .rla 0x17#8 .rl ∧ runs .rrca 0x0F#8 .rrc ∧ runs .rra 0x1F#8 .rr

/-- R142 to R150: flags `Z 0 0 C`, Z from the result. -/
def Obligations.PrefixedRotatesAndShifts : Prop :=
  ∀ k : RotOp, CbWrites (instrRot k) (rotCode k <<< 3) (fun s v =>
    let r := rotNumber k v.toNat s.flags.c.toNat
    (BitVec.ofNat 8 r.1, ⟨decide (r.1 = 0), false, false, r.2⟩))

/-- R151: flags `Z 0 1 -`, Z the complement of the bit; nothing is written back. -/
def Obligations.BitTestsAndWritesNothingBack : Prop :=
  ∀ (b : Fin 8) (s : State),
    let f := fun v : Byte => { s.flags with z := !v.getLsbD b.val, n := false, h := true }
    (∀ r, encode (instrBit b (.reg r)) =
        [0xCB#8, BitVec.ofNat 8 (0x40 + 8 * b.val + (regCode r).toNat)] ∧
      exec (instrBit b (.reg r)) s =
        .next { s with flags := f (s.reg r), pc := s.pc + 2#16, result := .ok 8 }) ∧
    (encode (instrBit b .mHL) = [0xCB#8, BitVec.ofNat 8 (0x40 + 8 * b.val + 6)] ∧
      exec (instrBit b .mHL) s =
        .next { s with
          flags := f (s.busAnswer s.hl)
          answers := s.answers.tail
          trace := s.trace ++ [.read s.hl (s.busAnswer s.hl)]
          pc := s.pc + 2#16, result := .ok 12 })

/-- R152, R153: the bit cleared or set, the others kept, always written back; no flag. -/
def Obligations.ResetAndSetBit : Prop :=
  ∀ b : Fin 8,
    CbWrites (instrRes b) (BitVec.ofNat 8 (0x80 + 8 * b.val)) (fun s v =>
      (BitVec.ofNat 8 (v.toNat - if v.toNat.testBit b.val then 2 ^ b.val else 0), s.flags)) ∧
    CbWrites (instrSet b) (BitVec.ofNat 8 (0xC0 + 8 * b.val)) (fun s v =>
      (BitVec.ofNat 8 (v.toNat + if v.toNat.testBit b.val then 0 else 2 ^ b.val), s.flags))

/-! ### Control transfer -/

/-- R157, R159, R160: the relative target is PC-after-instruction plus the signed displacement. -/
def Obligations.UnconditionalJumps : Prop :=
  ∀ (w : Word) (e : Byte) (s : State),
    (encode (.jp_a16 w) = [0xC3#8, loByte w, hiByte w] ∧
      exec (.jp_a16 w) s = .next { s with pc := w, result := .ok 16 }) ∧
    (encode .jp_HL = [0xE9#8] ∧ exec .jp_HL s = .next { s with pc := s.hl, result := .ok 4 }) ∧
    (encode (.jr_e8 e) = [0x18#8, e] ∧
      exec (.jr_e8 e) s =
        .next { s with pc := BitVec.ofInt 16 ((s.pc.toNat : Int) + 2 + e.toInt), result := .ok 12 })

/-- R154, R158, R161: taken and not taken, with their cycle counts. -/
def Obligations.ConditionalJumps : Prop :=
  ∀ (cc : Cond) (w : Word) (e : Byte) (s : State),
    encode (instrJpCc cc w) = [0b11000010#8 ||| condCode cc <<< 3, loByte w, hiByte w] ∧
    encode (instrJrCc cc e) = [0b00100000#8 ||| condCode cc <<< 3, e] ∧
    (condHolds cc s.flags →
      exec (instrJpCc cc w) s = .next { s with pc := w, result := .ok 16 } ∧
      exec (instrJrCc cc e) s =
        .next { s with pc := BitVec.ofInt 16 ((s.pc.toNat : Int) + 2 + e.toInt), result := .ok 12 }) ∧
    (¬condHolds cc s.flags →
      exec (instrJpCc cc w) s = .next { s with pc := s.pc + 3#16, result := .ok 12 } ∧
      exec (instrJrCc cc e) s = .next { s with pc := s.pc + 2#16, result := .ok 8 })

/-- R155, R162, R163, R167: the return address is pushed, high byte first, and PC takes the target; a
call not taken touches neither the stack nor memory. -/
def Obligations.CallsAndRestarts : Prop :=
  ∀ s : State,
    let calls := fun (i : Instr) (len : Word) (target : Word) (cycles : Nat) =>
      ∃ m, exec i s =
          .next { s with
            mem := m, sp := s.sp - 2#16
            trace := s.trace ++ [.write (s.sp - 1#16) (hiByte (s.pc + len)),
              .write (s.sp - 2#16) (loByte (s.pc + len))]
            pc := target, result := .ok cycles } ∧
        StoresTwo s.mem m (s.sp - 1#16) (hiByte (s.pc + len)) (s.sp - 2#16) (loByte (s.pc + len))
    (∀ w, encode (.call_a16 w) = [0xCD#8, loByte w, hiByte w] ∧ calls (.call_a16 w) 3#16 w 24) ∧
    (∀ cc w, encode (instrCallCc cc w) = [0b11000100#8 ||| condCode cc <<< 3, loByte w, hiByte w] ∧
      (condHolds cc s.flags → calls (instrCallCc cc w) 3#16 w 24) ∧
      (¬condHolds cc s.flags →
        exec (instrCallCc cc w) s = .next { s with pc := s.pc + 3#16, result := .ok 12 })) ∧
    (∀ y : Fin 8, encode (instrRst y) = [BitVec.ofNat 8 (0xC7 + 8 * y.val)] ∧
      calls (instrRst y) 1#16 (BitVec.ofNat 16 (8 * y.val)) 16)

/-- R155, R164, R165, R166: PC is popped, low byte first; RETI also sets IME; a return not taken
touches neither the stack nor the bus. -/
def Obligations.Returns : Prop :=
  ∀ s : State,
    let lo8 := s.busAnswer s.sp
    let hi8 := (s.afterRead s.sp).busAnswer (s.sp + 1#16)
    let popped : State := { s with
      sp := s.sp + 2#16
      answers := s.answers.drop 2
      trace := s.trace ++ [.read s.sp lo8, .read (s.sp + 1#16) hi8]
      pc := joinBytes hi8 lo8 }
    (encode .ret = [0xC9#8] ∧ exec .ret s = .next { popped with result := .ok 16 }) ∧
    (encode .reti = [0xD9#8] ∧
      exec .reti s = .next { popped with ime := true, result := .ok 16 }) ∧
    (∀ cc, encode (instrRetCc cc) = [0b11000000#8 ||| condCode cc <<< 3] ∧
      (condHolds cc s.flags → exec (instrRetCc cc) s = .next { popped with result := .ok 20 }) ∧
      (¬condHolds cc s.flags →
        exec (instrRetCc cc) s = .next { s with pc := s.pc + 1#16, result := .ok 8 }))

/-! ### System instructions -/

/-- R168, R169, R171, R172. That HALT halts whatever IME and the pending lines are (no HALT bug) is the
spec's choice D7, and that EI acts at once (no delay) is its choice D6 (assumption 12). -/
def Obligations.SystemInstructions : Prop :=
  ∀ s : State,
    (encode .nop = [0x00#8] ∧ exec .nop s = .next { s with pc := s.pc + 1#16, result := .ok 4 }) ∧
    (encode .halt = [0x76#8] ∧
      exec .halt s = .next { s with halted := true, pc := s.pc + 1#16, result := .ok 4 }) ∧
    (encode .di = [0xF3#8] ∧
      exec .di s = .next { s with ime := false, pc := s.pc + 1#16, result := .ok 4 }) ∧
    (encode .ei = [0xFB#8] ∧
      exec .ei s = .next { s with ime := true, pc := s.pc + 1#16, result := .ok 4 })

/-- R170: under `HaltLike` STOP halts and its second byte is read and ignored; under `Fault` the step
reads only 0x10 and raises the undefined-opcode fault with PC unchanged. Both modes are the spec's own
choice (D3); the operand byte 0x00 the unread form carries is the model's (assumption 13). -/
def Obligations.StopByItsMode : Prop :=
  ∀ s : State,
    (∀ v, encode (.stop v) = [0x10#8, v]) ∧
    (s.cfg.stopMode = .haltLike → ∀ v,
      exec (.stop v) s = .next { s with halted := true, pc := s.pc + 2#16, result := .ok 4 }) ∧
    (s.cfg.stopMode = .fault → ∀ v,
      exec (.stop v) s =
        .next { s with
          fault := some (.undefinedOpcode 0x10#8 false)
          result := .err (.undefinedOpcode 0x10#8 false) }) ∧
    (s.cfg.stopMode = .fault → s.deliver.Running → s.deliver.busAnswer s.deliver.pc = 0x10#8 →
      step s =
        .next { s.deliver with
          answers := s.deliver.answers.tail
          trace := [.read s.deliver.pc 0x10#8]
          fault := some (.undefinedOpcode 0x10#8 false)
          result := .err (.undefinedOpcode 0x10#8 false) })

/-- R89, R180: an undefined row records the fault with its opcode and changes nothing else, PC included.
What the faulting row leaves is the spec's choice D12; that it answers a next state with the error in
`result`, and not `Host.Outcome.fault`, is the model's (assumption 7). -/
def Obligations.UndefinedRowsRecordTheFault : Prop :=
  ∀ (i : Instr) (s : State), i.isUndefined = true →
    ∃ op ∈ undefinedOpcodes, encode i = [op] ∧
      exec i s =
        .next { s with
          fault := some (.undefinedOpcode op false), result := .err (.undefinedOpcode op false) }

/-- R179, R190: every instruction may be executed at any time and completes: no meaning stops.
An undefined row completes by taking the fault of R180 as a next state (D12, assumption 7). -/
def Obligations.EveryInstructionCompletes : Prop :=
  ∀ (i : Instr) (s : State), ∃ t, exec i s = .next t

/-! ### The step driver, interrupts, the environment -/

/-- R176: when the bytes the bus answers at PC decode to `i`, the step runs exactly `i`, after one read
transaction a byte of it, and then the interrupt controller unless `i` raised the fault (the order of
the transactions is the spec's choice D9). On the plain
RAM those bytes are the memory's at PC, PC + 1 and PC + 2. -/
def Obligations.StepRunsDecodedInstruction : Prop :=
  ∀ (s : State) (i : Instr) (rest : List Byte), s.deliver.Running →
    decode (window s.deliver) = .ok i rest → (∀ v, i = .stop v → s.cfg.stopMode = .haltLike) →
    (step s = match exec i (fetched s.deliver (encode i).length) with
      | .next t => .next (if t.fault = none then t.boundary else t)
      | r => r) ∧
    (s.deliver.PlainRAM → window s.deliver =
      [s.deliver.mem.read s.deliver.pc, s.deliver.mem.read (s.deliver.pc + 1#16),
        s.deliver.mem.read (s.deliver.pc + 2#16)])

/-- R176, R177: a halted tick fetches nothing, costs 4 cycles, leaves PC and then runs the interrupt
controller (which runs after a halted tick too: D4). -/
def Obligations.HaltedStepTicksThenScans : Prop :=
  ∀ s : State, s.deliver.fault = none → s.deliver.halted = true →
    step s = .next ({ s.deliver with trace := [], result := .ok 4 } : State).boundary

/-- R180: the step that decodes an undefined opcode reads that one byte and records the fault; no
register, flag, SP, PC, IME, `halted` or byte of memory changes and the interrupt controller does not
run, even with an interrupt pending (what the faulting step leaves is the spec's choice D12). -/
def Obligations.UndefinedOpcodeStepFaults : Prop :=
  ∀ (s : State) (op : Byte), s.deliver.Running → op ∈ undefinedOpcodes →
    s.deliver.busAnswer s.deliver.pc = op →
    step s =
      .next { s.deliver with
        answers := s.deliver.answers.tail
        trace := [.read s.deliver.pc op]
        fault := some (.undefinedOpcode op false)
        result := .err (.undefinedOpcode op false) }

/-- R176, R180: the step of a core that is faulted once the environment has done its actions returns the
recorded error, makes no bus access and changes nothing else: no register, flag, mode, parameter or byte
of memory. So, while no reset comes, every later step returns the same error with no bus access, and the
core's registers, IME and fault stay, whatever the environment stores or requests. The sticky error is
the spec's choice D12. -/
def Obligations.FaultStaysUntilReset : Prop :=
  (∀ (s : State) (f : Fault), s.deliver.fault = some f →
    step s = .next { s.deliver with trace := [], result := .err f }) ∧
  ∀ (n : Nat) (s : State) (f : Fault), s.fault = some f →
    (∀ acts ∈ s.inputs, EnvAction.reset ∉ acts) →
    ∃ t, Sys2Proof.core.run (n + 1) s = .next t ∧ t.fault = some f ∧ t.result = .err f ∧
      t.trace = [] ∧ t.a = s.a ∧ t.b = s.b ∧ t.c = s.c ∧ t.d = s.d ∧ t.e = s.e ∧ t.h = s.h ∧
      t.l = s.l ∧ t.flags = s.flags ∧ t.sp = s.sp ∧ t.pc = s.pc ∧ t.ime = s.ime ∧
      t.answers = s.answers

/-- R169, R177: with nothing from the environment and no dispatch possible (IME clear, or no line both
enabled and pending in the plain RAM), a halted core returns 4 cycles at every step and never fetches:
every register and byte of memory stays. That the controller runs after a halted tick is the spec's
choice D4, and that it reads IE, then IF, its choice D13 (assumption 12). -/
def Obligations.HaltedForEverWithoutRequest : Prop :=
  ∀ (n : Nat) (s : State), s.fault = none → s.halted = true → (∀ acts ∈ s.inputs, acts = []) →
    (s.ime = false ∨
      s.PlainRAM ∧ s.mem.read s.cfg.ieAddr &&& s.mem.read s.cfg.ifAddr &&& 0x1F#8 = 0#8) →
    ∃ t, Sys2Proof.core.run (n + 1) s = .next t ∧
      t = { s with inputs := t.inputs, trace := t.trace, result := .ok 4 } ∧
      (s.ime = false → t.trace = []) ∧
      (s.ime = true → t.trace = [.read s.cfg.ieAddr (s.mem.read s.cfg.ieAddr),
        .read s.cfg.ifAddr (s.mem.read s.cfg.ifAddr)])

/-- R181, R183 to R186: with IME clear the controller makes no bus access and does nothing; with IME set
it reads IE, then IF. With no line both enabled and pending it does nothing else; otherwise the line of
the lowest number is dispatched, and only it: IME cleared, its IF bit cleared and the other bits of IF
as read, PC pushed high byte first, `halted` cleared, PC at `0x40 + 8k`, the dispatch cycles added;
nothing else saved or changed. The order IE then IF, the mask of bits 7 to 5 and the write back of the
other IF bits are the spec's own choice (D13), as is adding the dispatch cycles to the step (D8). -/
def Obligations.BoundaryDispatchesLowestPendingLine : Prop :=
  ∀ s : State,
    (s.ime = false → s.boundary = s) ∧
    (s.ime = true → (∀ line, pending s line = false) →
      s.boundary =
        { s with
          answers := s.answers.drop 2
          trace := s.trace ++ [.read s.cfg.ieAddr (scanIE s), .read s.cfg.ifAddr (scanIF s)] }) ∧
    (∀ line, s.ime = true → pending s line = true →
      (∀ k, lineBit k < lineBit line → pending s k = false) →
      ∃ m, s.boundary =
          { s with
            ime := false, halted := false, sp := s.sp - 2#16
            pc := BitVec.ofNat 16 (0x40 + 8 * lineBit line)
            mem := m
            answers := s.answers.drop 2
            trace := s.trace ++ [.read s.cfg.ieAddr (scanIE s), .read s.cfg.ifAddr (scanIF s),
              .write s.cfg.ifAddr (scanIF s &&& ~~~ (1#8 <<< lineBit line)),
              .write (s.sp - 1#16) (hiByte s.pc), .write (s.sp - 2#16) (loByte s.pc)]
            result := s.result.addCycles s.cfg.intDispatchCycles } ∧
        (s.mem.wf → ∀ b, m.read b =
          if b = s.sp - 2#16 then loByte s.pc
          else if b = s.sp - 1#16 then hiByte s.pc
          else if b = s.cfg.ifAddr then scanIF s &&& ~~~ (1#8 <<< lineBit line)
          else s.mem.read b))

/-- R187, R188: on the plain RAM, RETI as the first instruction after a dispatch resumes where the
program was, with IME set and every register, the flags and SP as they were. -/
def Obligations.ReturnFromInterruptResumes : Prop :=
  ∀ (s : State) (line : Line) (ifl : Byte), s.mem.wf → s.PlainRAM →
    ∃ t, exec .reti (s.takeInterrupt line ifl) = .next t ∧
      t = { s with
        ime := true, halted := false, mem := (s.takeInterrupt line ifl).mem, trace := t.trace
        result := .ok 16 }

/-- R61, R173, R182, R196, R197: what the environment does before a step. A request sets the line's IF
bit and wakes the core, whatever IME and IE hold, and has no other effect; a store of another agent
does not wake it; a reset gives the core its reset registers and leaves the bus; with nothing to do
nothing changes, and several actions are done one after the other. The request event is the spec's
choice D5 and D19; the tape of actions, and that a reset leaves the bus and the tape, are the model's
(assumption 4). -/
def Obligations.EnvironmentActions : Prop :=
  ∀ (s : State) (rest : List (List EnvAction)),
    (∀ line, s.inputs = [.irqRequest line] :: rest →
      ∃ m, s.deliver = { s with inputs := rest, halted := false, mem := m } ∧
        StoresByte s.mem m s.cfg.ifAddr (s.mem.read s.cfg.ifAddr ||| 1#8 <<< lineBit line)) ∧
    (∀ a v, s.inputs = [.busWrite a v] :: rest →
      ∃ m, s.deliver = { s with inputs := rest, mem := m } ∧ StoresByte s.mem m a v) ∧
    (s.inputs = [.reset] :: rest →
      s.deliver = { State.resetWith s.cfg with
        mem := s.mem, answers := s.answers, inputs := rest, trace := s.trace }) ∧
    (s.inputs = [] → s.deliver = s) ∧
    (s.inputs = [] :: rest → s.deliver = { s with inputs := rest }) ∧
    (∀ x acts, s.inputs = (x :: acts) :: rest →
      s.deliver = ({ s with inputs := [x] :: acts :: rest } : State).deliver.deliver)

/-- R204: a step that returns cycles returns at most `24 + INT_DISPATCH_CYCLES` and at least 4. -/
def Obligations.StepCyclesAreBounded : Prop :=
  ∀ (s t : State) (n : Nat), step s = .next t → t.result = .ok n →
    4 ≤ n ∧ n ≤ 24 + s.cfg.intDispatchCycles

/-! ### Reset -/

/-- R196, R197, R198: the two reset profiles; the state after reset is one of them, with the defaults
the spec gives the other parameters (R9, R12, R13). Which profile that is, the spec leaves open, and
this says nothing of it (assumption 2). The defaults are the spec's own choice (D1, D3, D8). -/
def Obligations.ResetProfiles : Prop :=
  (∀ cfg : Config,
    let r := State.resetWith cfg
    r.ime = true ∧ r.halted = false ∧ r.fault = none ∧ r.cfg = cfg ∧
    (cfg.resetProfile = .zero →
      r.a = 0x00#8 ∧ r.flags.toByte = 0x00#8 ∧ r.b = 0x00#8 ∧ r.c = 0x00#8 ∧ r.d = 0x00#8 ∧
      r.e = 0x00#8 ∧ r.h = 0x00#8 ∧ r.l = 0x00#8 ∧ r.sp = 0x0000#16 ∧ r.pc = 0x0000#16) ∧
    (cfg.resetProfile = .postBoot →
      r.a = 0x01#8 ∧ r.flags.toByte = 0xB0#8 ∧ r.b = 0x00#8 ∧ r.c = 0x13#8 ∧ r.d = 0x00#8 ∧
      r.e = 0xD8#8 ∧ r.h = 0x01#8 ∧ r.l = 0x4D#8 ∧ r.sp = 0xFFFE#16 ∧ r.pc = 0x0100#16)) ∧
  ∃ cfg : Config, State.reset = State.resetWith cfg ∧ cfg.ieAddr = 0xFFFF#16 ∧
    cfg.ifAddr = 0xFF0F#16 ∧ cfg.intDispatchCycles = 20 ∧ cfg.stopMode = .haltLike

/-- The invariant holds at reset; the canonical form of the memory in it is the model's (assumption 1). -/
def Obligations.InvariantAtReset : Prop := State.reset.Inv

/-- Every step, from every state with the invariant, gives a state with it: the memory stays canonical,
the step port reports an error exactly while the fault is recorded, a faulted core is not halted, and
the only faults recorded are those R179 allows. The canonical form is the model's (assumption 1); the
sticky error is the spec's choice D12, taken as a next state (assumption 7). -/
def Obligations.InvariantKeptByStep : Prop :=
  ∀ s t : State, s.Inv → step s = .next t → t.Inv

/-! ### Whole-machine rules -/

/-- R174, R179: every call of `step()` returns; and no step, and nothing the environment does, changes
the parameters. An error is returned in a next state (assumption 7). -/
def Obligations.EveryStepReturnsAndKeepsTheParameters : Prop :=
  ∀ s : State, ∃ t, step s = .next t ∧ t.cfg = s.cfg

/-- R41, R42: of the instructions only DI, EI and RETI write IME, and only HALT and STOP write
`halted`; none clears it. That STOP halts under `HaltLike` is the spec's choice D3. -/
def Obligations.OnlyNamedInstructionsWriteModes : Prop :=
  ∀ (i : Instr) (s t : State), exec i s = .next t →
    t.ime = (match i with
      | .di => false
      | .ei => true
      | .reti => true
      | _ => s.ime) ∧
    t.halted = (match i with
      | .halt => true
      | .stop _ => if s.cfg.stopMode = .haltLike then true else s.halted
      | _ => s.halted)

/-- R40: an instruction outside the index of flag writers leaves all four flags. -/
def Obligations.OnlyIndexedInstructionsWriteFlags : Prop :=
  ∀ (i : Instr) (s t : State), exec i s = .next t → writesFlags i = false → t.flags = s.flags

/-- R30: an instruction outside the index leaves the register, and SP. -/
def Obligations.OnlyIndexedInstructionsWriteRegisters : Prop :=
  ∀ (i : Instr) (s t : State), exec i s = .next t →
    (∀ r, i.wellFormed = true → writesReg i r = false → t.reg r = s.reg r) ∧
    (writesSP i = false → t.sp = s.sp)

/-- R55: an instruction outside the index of stores leaves every byte of memory, and writes nothing on
the bus. -/
def Obligations.OnlyIndexedInstructionsStore : Prop :=
  ∀ (i : Instr) (s t : State), exec i s = .next t → storesMemory i = false →
    (∀ b, t.mem.read b = s.mem.read b) ∧ t.mem = s.mem ∧
    ∃ reads : List (Word × Byte), t.trace = s.trace ++ reads.map (fun x => .read x.1 x.2)
end

