-- ==== Sys2Proof/Laws/Bits.lean ====
section
/-! SUPPORT. The byte-order helpers are inverse to each other, and F read whole is what was written
whole less its low nibble. -/

namespace Sys2Proof

/-- The bits of `hi:lo`: the low byte's below bit 8, the high byte's above. -/
theorem getLsbD_joinBytes (h l : Byte) (i : Nat) :
    (joinBytes h l).getLsbD i = if i < 8 then l.getLsbD i else h.getLsbD (i - 8) :=
  BitVec.getLsbD_append

@[simp] theorem hiByte_joinBytes (h l : Byte) : hiByte (joinBytes h l) = h := by
  apply BitVec.eq_of_getLsbD_eq
  intro i hi
  simp [hiByte, getLsbD_joinBytes, hi]

@[simp] theorem loByte_joinBytes (h l : Byte) : loByte (joinBytes h l) = l := by
  apply BitVec.eq_of_getLsbD_eq
  intro i hi
  simp [loByte, getLsbD_joinBytes, hi]

@[simp] theorem joinBytes_hiByte_loByte (w : Word) : joinBytes (hiByte w) (loByte w) = w := by
  apply BitVec.eq_of_getLsbD_eq
  intro i hi
  rw [getLsbD_joinBytes]
  by_cases h : i < 8
  · simp [loByte, h]
  · simp [hiByte, h, show 8 + (i - 8) = i by omega, show i - 8 < 8 by omega]

/-- F keeps what POP AF writes, less the low nibble (R35, R114). -/
theorem Machine.Flags.toByte_ofByte (v : Byte) :
    (Machine.Flags.ofByte v).toByte = v &&& 0xF0#8 := by
  revert v; decide

/-- The flags are all that F holds (R34). -/
@[simp] theorem Machine.Flags.ofByte_toByte (f : Machine.Flags) :
    Machine.Flags.ofByte f.toByte = f := by
  obtain ⟨z, n, h, c⟩ := f
  revert z n h c; decide

end Sys2Proof
end

