-- ==== Sys2Proof/Laws/Decode.lean ====
section
/-! SUPPORT. The opcode page is full, so `cell`'s defaults are never taken. -/

namespace Sys2Proof.Laws

/-- Sixteen rows of sixteen cells (R84). -/
theorem unprefixedPage_full : unprefixedPage.map List.length = List.replicate 16 16 := rfl

/-- `decode` refuses nothing but an empty or cut-off list: with three bytes it always answers. -/
theorem decode_three (b0 b1 b2 : Byte) (rest : List Byte) :
    ∃ i r, decode (b0 :: b1 :: b2 :: rest) = .ok i r := by
  simp only [decode]
  split <;> exact ⟨_, _, rfl⟩

end Sys2Proof.Laws
end

