-- ==== Sys2Proof/Laws/Memory.lean ====
section
/-! SUPPORT. The laws of the bytes behind the bus: reading after writing, the canonical form, and what
reading one byte tells of a store. -/

namespace Sys2Proof.Machine

theorem Memory.read_nil (a : Word) : Memory.read [] a = unlistedByte := rfl

theorem Memory.wf_nil : Memory.wf [] := by decide

theorem Memory.wf_tail {x : Host.Cell} {m : Memory} (h : Memory.wf (x :: m)) : Memory.wf m :=
  ⟨(List.pairwise_cons.1 h.1).2, fun y hy => h.2 y (List.mem_cons_of_mem _ hy)⟩

/-- Below the first listed address nothing is listed. -/
theorem Memory.read_below {m : Memory} {a : Word} (h : ∀ x ∈ m, a.toNat < x.1) :
    m.read a = unlistedByte := by
  cases m with
  | nil => rfl
  | cons x m =>
    have hx : a.toNat < x.1 := h x List.mem_cons_self
    simp [Memory.read, hx, Nat.ne_of_lt hx]

theorem Memory.wf_head_lt {x : Host.Cell} {m : Memory} (h : Memory.wf (x :: m)) :
    ∀ y ∈ m, x.1 < y.1 := (List.pairwise_cons.1 h.1).1

/-- Every entry of a written memory is the new cell or an old entry. -/
theorem Memory.mem_write {m : Memory} {a : Word} {v : Byte} {x : Host.Cell}
    (h : x ∈ m.write a v) : (x = (a.toNat, v) ∧ v ≠ unlistedByte) ∨ x ∈ m := by
  induction m with
  | nil =>
    simp only [Memory.write] at h
    split at h <;> simp_all
  | cons y m ih =>
    obtain ⟨k, w⟩ := y
    simp only [Memory.write] at h
    split at h
    · split at h
      · exact .inr (List.mem_cons_of_mem _ h)
      · rcases List.mem_cons.1 h with rfl | h
        · exact .inl ⟨by simp_all, ‹_›⟩
        · exact .inr (List.mem_cons_of_mem _ h)
    · split at h
      · split at h
        · exact .inr h
        · rcases List.mem_cons.1 h with rfl | h
          · exact .inl ⟨rfl, ‹_›⟩
          · exact .inr h
      · rcases List.mem_cons.1 h with rfl | h
        · exact .inr List.mem_cons_self
        · exact (ih h).imp_right (List.mem_cons_of_mem _)

/-- A write keeps the canonical form. -/
theorem Memory.write_wf {m : Memory} (h : m.wf) (a : Word) (v : Byte) : (m.write a v).wf := by
  refine ⟨?_, fun x hx => ?_⟩
  · induction m with
    | nil => simp only [Memory.write]; split <;> simp
    | cons y m ih =>
      obtain ⟨k, w⟩ := y
      have hlt := Memory.wf_head_lt h
      have hp := List.pairwise_cons.1 h.1
      simp only [Memory.write]
      split
      · split
        · exact hp.2
        · exact List.pairwise_cons.2 ⟨hlt, hp.2⟩
      · split
        · split
          · exact h.1
          · refine List.pairwise_cons.2 ⟨fun z hz => ?_, h.1⟩
            rcases List.mem_cons.1 hz with rfl | hz
            · assumption
            · exact Nat.lt_trans ‹_› (hlt z hz)
        · refine List.pairwise_cons.2 ⟨fun z hz => ?_, ih (Memory.wf_tail h)⟩
          rcases Memory.mem_write hz with ⟨rfl, -⟩ | hz
          · show k < a.toNat; omega
          · exact hlt z hz
  · rcases Memory.mem_write hx with ⟨rfl, hv⟩ | hx
    · exact ⟨a.isLt, hv⟩
    · exact h.2 x hx

theorem Memory.placeBytes_wf {m : Memory} (h : m.wf) (a : Word) (bytes : List Byte) :
    (m.placeBytes a bytes).wf := by
  induction bytes generalizing m a with
  | nil => exact h
  | cons v rest ih => exact ih (Memory.write_wf h a v) _

/-- What reading one byte tells after a store (R62, R67): the byte stored at its address, the old byte
at every other. -/
theorem Memory.read_write {m : Memory} (h : m.wf) (a b : Word) (v : Byte) :
    (m.write a v).read b = if b = a then v else m.read b := by
  have hba : b = a ↔ b.toNat = a.toNat := BitVec.toNat_inj.symm
  simp only [hba]
  induction m with
  | nil =>
    simp only [Memory.write]
    split <;> simp only [Memory.read] <;> split <;> (try split) <;> simp_all
  | cons y m ih =>
    obtain ⟨k, w⟩ := y
    have hlt := Memory.wf_head_lt h
    have ih := ih (Memory.wf_tail h)
    have below : ∀ c : Word, c.toNat ≤ k → Memory.read m c = unlistedByte :=
      fun c hc => Memory.read_below fun x hx => Nat.lt_of_le_of_lt hc (hlt x hx)
    by_cases h1 : a.toNat = k
    · subst h1
      by_cases hv : v = unlistedByte
      · simp only [Memory.write, if_pos, hv, Memory.read]
        split
        · exact below b (by omega)
        · split
          · exact below b (by omega)
          · rfl
      · simp only [Memory.write, if_pos, if_neg hv, Memory.read]
        split <;> rfl
    · by_cases h2 : a.toNat < k
      · by_cases hv : v = unlistedByte
        · simp only [Memory.write, if_neg h1, if_pos h2, if_pos hv, Memory.read]
          by_cases hb : b.toNat = a.toNat
          · rw [if_pos hb, if_neg (by omega), if_pos (by omega), hv]
          · rw [if_neg hb]
        · simp only [Memory.write, if_neg h1, if_pos h2, if_neg hv, Memory.read]
          split
          · rfl
          · split
            · rw [if_neg (by omega), if_pos (by omega)]
            · rfl
      · simp only [Memory.write, if_neg h1, if_neg h2, Memory.read, ih]
        split <;> (try split) <;> (try split) <;> first | rfl | omega

theorem Memory.read_write_self {m : Memory} (h : m.wf) (a : Word) (v : Byte) :
    (m.write a v).read a = v := by simp [Memory.read_write h]

theorem Memory.read_write_other {m : Memory} (h : m.wf) {a b : Word} (hb : b ≠ a) (v : Byte) :
    (m.write a v).read b = m.read b := by simp [Memory.read_write h, hb]

end Sys2Proof.Machine
end

