-- ==== Sys2Proof/Laws/State.lean ====
section
/-! SUPPORT. One lemma per field per update of the state: what each named update leaves in each field. -/

namespace Sys2Proof.Machine

/-! ### `afterRead` -/

@[simp] theorem State.afterRead_a (s : State) (a : Word) :
    (s.afterRead a).a = s.a := rfl

@[simp] theorem State.afterRead_b (s : State) (a : Word) :
    (s.afterRead a).b = s.b := rfl

@[simp] theorem State.afterRead_c (s : State) (a : Word) :
    (s.afterRead a).c = s.c := rfl

@[simp] theorem State.afterRead_d (s : State) (a : Word) :
    (s.afterRead a).d = s.d := rfl

@[simp] theorem State.afterRead_e (s : State) (a : Word) :
    (s.afterRead a).e = s.e := rfl

@[simp] theorem State.afterRead_h (s : State) (a : Word) :
    (s.afterRead a).h = s.h := rfl

@[simp] theorem State.afterRead_l (s : State) (a : Word) :
    (s.afterRead a).l = s.l := rfl

@[simp] theorem State.afterRead_flags (s : State) (a : Word) :
    (s.afterRead a).flags = s.flags := rfl

@[simp] theorem State.afterRead_sp (s : State) (a : Word) :
    (s.afterRead a).sp = s.sp := rfl

@[simp] theorem State.afterRead_pc (s : State) (a : Word) :
    (s.afterRead a).pc = s.pc := rfl

@[simp] theorem State.afterRead_ime (s : State) (a : Word) :
    (s.afterRead a).ime = s.ime := rfl

@[simp] theorem State.afterRead_halted (s : State) (a : Word) :
    (s.afterRead a).halted = s.halted := rfl

@[simp] theorem State.afterRead_fault (s : State) (a : Word) :
    (s.afterRead a).fault = s.fault := rfl

@[simp] theorem State.afterRead_mem (s : State) (a : Word) :
    (s.afterRead a).mem = s.mem := rfl

@[simp] theorem State.afterRead_answers (s : State) (a : Word) :
    (s.afterRead a).answers = s.answers.tail := rfl

@[simp] theorem State.afterRead_inputs (s : State) (a : Word) :
    (s.afterRead a).inputs = s.inputs := rfl

@[simp] theorem State.afterRead_trace (s : State) (a : Word) :
    (s.afterRead a).trace = s.trace ++ [.read a (s.busAnswer a)] := rfl

@[simp] theorem State.afterRead_result (s : State) (a : Word) :
    (s.afterRead a).result = s.result := rfl

@[simp] theorem State.afterRead_cfg (s : State) (a : Word) :
    (s.afterRead a).cfg = s.cfg := rfl

/-! ### `busWrite` -/

@[simp] theorem State.busWrite_a (s : State) (a : Word) (v : Byte) :
    (s.busWrite a v).a = s.a := rfl

@[simp] theorem State.busWrite_b (s : State) (a : Word) (v : Byte) :
    (s.busWrite a v).b = s.b := rfl

@[simp] theorem State.busWrite_c (s : State) (a : Word) (v : Byte) :
    (s.busWrite a v).c = s.c := rfl

@[simp] theorem State.busWrite_d (s : State) (a : Word) (v : Byte) :
    (s.busWrite a v).d = s.d := rfl

@[simp] theorem State.busWrite_e (s : State) (a : Word) (v : Byte) :
    (s.busWrite a v).e = s.e := rfl

@[simp] theorem State.busWrite_h (s : State) (a : Word) (v : Byte) :
    (s.busWrite a v).h = s.h := rfl

@[simp] theorem State.busWrite_l (s : State) (a : Word) (v : Byte) :
    (s.busWrite a v).l = s.l := rfl

@[simp] theorem State.busWrite_flags (s : State) (a : Word) (v : Byte) :
    (s.busWrite a v).flags = s.flags := rfl

@[simp] theorem State.busWrite_sp (s : State) (a : Word) (v : Byte) :
    (s.busWrite a v).sp = s.sp := rfl

@[simp] theorem State.busWrite_pc (s : State) (a : Word) (v : Byte) :
    (s.busWrite a v).pc = s.pc := rfl

@[simp] theorem State.busWrite_ime (s : State) (a : Word) (v : Byte) :
    (s.busWrite a v).ime = s.ime := rfl

@[simp] theorem State.busWrite_halted (s : State) (a : Word) (v : Byte) :
    (s.busWrite a v).halted = s.halted := rfl

@[simp] theorem State.busWrite_fault (s : State) (a : Word) (v : Byte) :
    (s.busWrite a v).fault = s.fault := rfl

@[simp] theorem State.busWrite_mem (s : State) (a : Word) (v : Byte) :
    (s.busWrite a v).mem = s.mem.write a v := rfl

@[simp] theorem State.busWrite_answers (s : State) (a : Word) (v : Byte) :
    (s.busWrite a v).answers = s.answers := rfl

@[simp] theorem State.busWrite_inputs (s : State) (a : Word) (v : Byte) :
    (s.busWrite a v).inputs = s.inputs := rfl

@[simp] theorem State.busWrite_trace (s : State) (a : Word) (v : Byte) :
    (s.busWrite a v).trace = s.trace ++ [.write a v] := rfl

@[simp] theorem State.busWrite_result (s : State) (a : Word) (v : Byte) :
    (s.busWrite a v).result = s.result := rfl

@[simp] theorem State.busWrite_cfg (s : State) (a : Word) (v : Byte) :
    (s.busWrite a v).cfg = s.cfg := rfl

/-! ### `finish` -/

@[simp] theorem State.finish_a (s : State) (len cycles : Nat) :
    (s.finish len cycles).a = s.a := rfl

@[simp] theorem State.finish_b (s : State) (len cycles : Nat) :
    (s.finish len cycles).b = s.b := rfl

@[simp] theorem State.finish_c (s : State) (len cycles : Nat) :
    (s.finish len cycles).c = s.c := rfl

@[simp] theorem State.finish_d (s : State) (len cycles : Nat) :
    (s.finish len cycles).d = s.d := rfl

@[simp] theorem State.finish_e (s : State) (len cycles : Nat) :
    (s.finish len cycles).e = s.e := rfl

@[simp] theorem State.finish_h (s : State) (len cycles : Nat) :
    (s.finish len cycles).h = s.h := rfl

@[simp] theorem State.finish_l (s : State) (len cycles : Nat) :
    (s.finish len cycles).l = s.l := rfl

@[simp] theorem State.finish_flags (s : State) (len cycles : Nat) :
    (s.finish len cycles).flags = s.flags := rfl

@[simp] theorem State.finish_sp (s : State) (len cycles : Nat) :
    (s.finish len cycles).sp = s.sp := rfl

@[simp] theorem State.finish_pc (s : State) (len cycles : Nat) :
    (s.finish len cycles).pc = s.pc + BitVec.ofNat 16 len := rfl

@[simp] theorem State.finish_ime (s : State) (len cycles : Nat) :
    (s.finish len cycles).ime = s.ime := rfl

@[simp] theorem State.finish_halted (s : State) (len cycles : Nat) :
    (s.finish len cycles).halted = s.halted := rfl

@[simp] theorem State.finish_fault (s : State) (len cycles : Nat) :
    (s.finish len cycles).fault = s.fault := rfl

@[simp] theorem State.finish_mem (s : State) (len cycles : Nat) :
    (s.finish len cycles).mem = s.mem := rfl

@[simp] theorem State.finish_answers (s : State) (len cycles : Nat) :
    (s.finish len cycles).answers = s.answers := rfl

@[simp] theorem State.finish_inputs (s : State) (len cycles : Nat) :
    (s.finish len cycles).inputs = s.inputs := rfl

@[simp] theorem State.finish_trace (s : State) (len cycles : Nat) :
    (s.finish len cycles).trace = s.trace := rfl

@[simp] theorem State.finish_result (s : State) (len cycles : Nat) :
    (s.finish len cycles).result = .ok cycles := rfl

@[simp] theorem State.finish_cfg (s : State) (len cycles : Nat) :
    (s.finish len cycles).cfg = s.cfg := rfl

/-! ### `jumpTo` -/

@[simp] theorem State.jumpTo_a (s : State) (w : Word) (cycles : Nat) :
    (s.jumpTo w cycles).a = s.a := rfl

@[simp] theorem State.jumpTo_b (s : State) (w : Word) (cycles : Nat) :
    (s.jumpTo w cycles).b = s.b := rfl

@[simp] theorem State.jumpTo_c (s : State) (w : Word) (cycles : Nat) :
    (s.jumpTo w cycles).c = s.c := rfl

@[simp] theorem State.jumpTo_d (s : State) (w : Word) (cycles : Nat) :
    (s.jumpTo w cycles).d = s.d := rfl

@[simp] theorem State.jumpTo_e (s : State) (w : Word) (cycles : Nat) :
    (s.jumpTo w cycles).e = s.e := rfl

@[simp] theorem State.jumpTo_h (s : State) (w : Word) (cycles : Nat) :
    (s.jumpTo w cycles).h = s.h := rfl

@[simp] theorem State.jumpTo_l (s : State) (w : Word) (cycles : Nat) :
    (s.jumpTo w cycles).l = s.l := rfl

@[simp] theorem State.jumpTo_flags (s : State) (w : Word) (cycles : Nat) :
    (s.jumpTo w cycles).flags = s.flags := rfl

@[simp] theorem State.jumpTo_sp (s : State) (w : Word) (cycles : Nat) :
    (s.jumpTo w cycles).sp = s.sp := rfl

@[simp] theorem State.jumpTo_pc (s : State) (w : Word) (cycles : Nat) :
    (s.jumpTo w cycles).pc = w := rfl

@[simp] theorem State.jumpTo_ime (s : State) (w : Word) (cycles : Nat) :
    (s.jumpTo w cycles).ime = s.ime := rfl

@[simp] theorem State.jumpTo_halted (s : State) (w : Word) (cycles : Nat) :
    (s.jumpTo w cycles).halted = s.halted := rfl

@[simp] theorem State.jumpTo_fault (s : State) (w : Word) (cycles : Nat) :
    (s.jumpTo w cycles).fault = s.fault := rfl

@[simp] theorem State.jumpTo_mem (s : State) (w : Word) (cycles : Nat) :
    (s.jumpTo w cycles).mem = s.mem := rfl

@[simp] theorem State.jumpTo_answers (s : State) (w : Word) (cycles : Nat) :
    (s.jumpTo w cycles).answers = s.answers := rfl

@[simp] theorem State.jumpTo_inputs (s : State) (w : Word) (cycles : Nat) :
    (s.jumpTo w cycles).inputs = s.inputs := rfl

@[simp] theorem State.jumpTo_trace (s : State) (w : Word) (cycles : Nat) :
    (s.jumpTo w cycles).trace = s.trace := rfl

@[simp] theorem State.jumpTo_result (s : State) (w : Word) (cycles : Nat) :
    (s.jumpTo w cycles).result = .ok cycles := rfl

@[simp] theorem State.jumpTo_cfg (s : State) (w : Word) (cycles : Nat) :
    (s.jumpTo w cycles).cfg = s.cfg := rfl

/-! ### `setHL` -/

@[simp] theorem State.setHL_a (s : State) (w : Word) :
    (s.setHL w).a = s.a := rfl

@[simp] theorem State.setHL_b (s : State) (w : Word) :
    (s.setHL w).b = s.b := rfl

@[simp] theorem State.setHL_c (s : State) (w : Word) :
    (s.setHL w).c = s.c := rfl

@[simp] theorem State.setHL_d (s : State) (w : Word) :
    (s.setHL w).d = s.d := rfl

@[simp] theorem State.setHL_e (s : State) (w : Word) :
    (s.setHL w).e = s.e := rfl

@[simp] theorem State.setHL_h (s : State) (w : Word) :
    (s.setHL w).h = hiByte w := rfl

@[simp] theorem State.setHL_l (s : State) (w : Word) :
    (s.setHL w).l = loByte w := rfl

@[simp] theorem State.setHL_flags (s : State) (w : Word) :
    (s.setHL w).flags = s.flags := rfl

@[simp] theorem State.setHL_sp (s : State) (w : Word) :
    (s.setHL w).sp = s.sp := rfl

@[simp] theorem State.setHL_pc (s : State) (w : Word) :
    (s.setHL w).pc = s.pc := rfl

@[simp] theorem State.setHL_ime (s : State) (w : Word) :
    (s.setHL w).ime = s.ime := rfl

@[simp] theorem State.setHL_halted (s : State) (w : Word) :
    (s.setHL w).halted = s.halted := rfl

@[simp] theorem State.setHL_fault (s : State) (w : Word) :
    (s.setHL w).fault = s.fault := rfl

@[simp] theorem State.setHL_mem (s : State) (w : Word) :
    (s.setHL w).mem = s.mem := rfl

@[simp] theorem State.setHL_answers (s : State) (w : Word) :
    (s.setHL w).answers = s.answers := rfl

@[simp] theorem State.setHL_inputs (s : State) (w : Word) :
    (s.setHL w).inputs = s.inputs := rfl

@[simp] theorem State.setHL_trace (s : State) (w : Word) :
    (s.setHL w).trace = s.trace := rfl

@[simp] theorem State.setHL_result (s : State) (w : Word) :
    (s.setHL w).result = s.result := rfl

@[simp] theorem State.setHL_cfg (s : State) (w : Word) :
    (s.setHL w).cfg = s.cfg := rfl

/-! ### `raiseUndefined` -/

@[simp] theorem State.raiseUndefined_a (s : State) (op : Byte) (p : Bool) :
    (s.raiseUndefined op p).a = s.a := rfl

@[simp] theorem State.raiseUndefined_b (s : State) (op : Byte) (p : Bool) :
    (s.raiseUndefined op p).b = s.b := rfl

@[simp] theorem State.raiseUndefined_c (s : State) (op : Byte) (p : Bool) :
    (s.raiseUndefined op p).c = s.c := rfl

@[simp] theorem State.raiseUndefined_d (s : State) (op : Byte) (p : Bool) :
    (s.raiseUndefined op p).d = s.d := rfl

@[simp] theorem State.raiseUndefined_e (s : State) (op : Byte) (p : Bool) :
    (s.raiseUndefined op p).e = s.e := rfl

@[simp] theorem State.raiseUndefined_h (s : State) (op : Byte) (p : Bool) :
    (s.raiseUndefined op p).h = s.h := rfl

@[simp] theorem State.raiseUndefined_l (s : State) (op : Byte) (p : Bool) :
    (s.raiseUndefined op p).l = s.l := rfl

@[simp] theorem State.raiseUndefined_flags (s : State) (op : Byte) (p : Bool) :
    (s.raiseUndefined op p).flags = s.flags := rfl

@[simp] theorem State.raiseUndefined_sp (s : State) (op : Byte) (p : Bool) :
    (s.raiseUndefined op p).sp = s.sp := rfl

@[simp] theorem State.raiseUndefined_pc (s : State) (op : Byte) (p : Bool) :
    (s.raiseUndefined op p).pc = s.pc := rfl

@[simp] theorem State.raiseUndefined_ime (s : State) (op : Byte) (p : Bool) :
    (s.raiseUndefined op p).ime = s.ime := rfl

@[simp] theorem State.raiseUndefined_halted (s : State) (op : Byte) (p : Bool) :
    (s.raiseUndefined op p).halted = s.halted := rfl

@[simp] theorem State.raiseUndefined_fault (s : State) (op : Byte) (p : Bool) :
    (s.raiseUndefined op p).fault = some (.undefinedOpcode op p) := rfl

@[simp] theorem State.raiseUndefined_mem (s : State) (op : Byte) (p : Bool) :
    (s.raiseUndefined op p).mem = s.mem := rfl

@[simp] theorem State.raiseUndefined_answers (s : State) (op : Byte) (p : Bool) :
    (s.raiseUndefined op p).answers = s.answers := rfl

@[simp] theorem State.raiseUndefined_inputs (s : State) (op : Byte) (p : Bool) :
    (s.raiseUndefined op p).inputs = s.inputs := rfl

@[simp] theorem State.raiseUndefined_trace (s : State) (op : Byte) (p : Bool) :
    (s.raiseUndefined op p).trace = s.trace := rfl

@[simp] theorem State.raiseUndefined_result (s : State) (op : Byte) (p : Bool) :
    (s.raiseUndefined op p).result = .err (.undefinedOpcode op p) := rfl

@[simp] theorem State.raiseUndefined_cfg (s : State) (op : Byte) (p : Bool) :
    (s.raiseUndefined op p).cfg = s.cfg := rfl

/-! ### `alu` -/

@[simp] theorem State.alu_a (s : State) (op : AluOp) (v : Byte) :
    (s.alu op v).a = (aluResult op s.a v s.flags).1 := rfl

@[simp] theorem State.alu_b (s : State) (op : AluOp) (v : Byte) :
    (s.alu op v).b = s.b := rfl

@[simp] theorem State.alu_c (s : State) (op : AluOp) (v : Byte) :
    (s.alu op v).c = s.c := rfl

@[simp] theorem State.alu_d (s : State) (op : AluOp) (v : Byte) :
    (s.alu op v).d = s.d := rfl

@[simp] theorem State.alu_e (s : State) (op : AluOp) (v : Byte) :
    (s.alu op v).e = s.e := rfl

@[simp] theorem State.alu_h (s : State) (op : AluOp) (v : Byte) :
    (s.alu op v).h = s.h := rfl

@[simp] theorem State.alu_l (s : State) (op : AluOp) (v : Byte) :
    (s.alu op v).l = s.l := rfl

@[simp] theorem State.alu_flags (s : State) (op : AluOp) (v : Byte) :
    (s.alu op v).flags = (aluResult op s.a v s.flags).2 := rfl

@[simp] theorem State.alu_sp (s : State) (op : AluOp) (v : Byte) :
    (s.alu op v).sp = s.sp := rfl

@[simp] theorem State.alu_pc (s : State) (op : AluOp) (v : Byte) :
    (s.alu op v).pc = s.pc := rfl

@[simp] theorem State.alu_ime (s : State) (op : AluOp) (v : Byte) :
    (s.alu op v).ime = s.ime := rfl

@[simp] theorem State.alu_halted (s : State) (op : AluOp) (v : Byte) :
    (s.alu op v).halted = s.halted := rfl

@[simp] theorem State.alu_fault (s : State) (op : AluOp) (v : Byte) :
    (s.alu op v).fault = s.fault := rfl

@[simp] theorem State.alu_mem (s : State) (op : AluOp) (v : Byte) :
    (s.alu op v).mem = s.mem := rfl

@[simp] theorem State.alu_answers (s : State) (op : AluOp) (v : Byte) :
    (s.alu op v).answers = s.answers := rfl

@[simp] theorem State.alu_inputs (s : State) (op : AluOp) (v : Byte) :
    (s.alu op v).inputs = s.inputs := rfl

@[simp] theorem State.alu_trace (s : State) (op : AluOp) (v : Byte) :
    (s.alu op v).trace = s.trace := rfl

@[simp] theorem State.alu_result (s : State) (op : AluOp) (v : Byte) :
    (s.alu op v).result = s.result := rfl

@[simp] theorem State.alu_cfg (s : State) (op : AluOp) (v : Byte) :
    (s.alu op v).cfg = s.cfg := rfl

/-! ### `setReg` -/

@[simp] theorem State.setReg_a (s : State) (r : Reg8) (v : Byte) :
    (s.setReg r v).a = if r = .A then v else s.a := by cases r <;> rfl

@[simp] theorem State.setReg_b (s : State) (r : Reg8) (v : Byte) :
    (s.setReg r v).b = if r = .B then v else s.b := by cases r <;> rfl

@[simp] theorem State.setReg_c (s : State) (r : Reg8) (v : Byte) :
    (s.setReg r v).c = if r = .C then v else s.c := by cases r <;> rfl

@[simp] theorem State.setReg_d (s : State) (r : Reg8) (v : Byte) :
    (s.setReg r v).d = if r = .D then v else s.d := by cases r <;> rfl

@[simp] theorem State.setReg_e (s : State) (r : Reg8) (v : Byte) :
    (s.setReg r v).e = if r = .E then v else s.e := by cases r <;> rfl

@[simp] theorem State.setReg_h (s : State) (r : Reg8) (v : Byte) :
    (s.setReg r v).h = if r = .H then v else s.h := by cases r <;> rfl

@[simp] theorem State.setReg_l (s : State) (r : Reg8) (v : Byte) :
    (s.setReg r v).l = if r = .L then v else s.l := by cases r <;> rfl

@[simp] theorem State.setReg_flags (s : State) (r : Reg8) (v : Byte) :
    (s.setReg r v).flags = s.flags := by cases r <;> rfl

@[simp] theorem State.setReg_sp (s : State) (r : Reg8) (v : Byte) :
    (s.setReg r v).sp = s.sp := by cases r <;> rfl

@[simp] theorem State.setReg_pc (s : State) (r : Reg8) (v : Byte) :
    (s.setReg r v).pc = s.pc := by cases r <;> rfl

@[simp] theorem State.setReg_ime (s : State) (r : Reg8) (v : Byte) :
    (s.setReg r v).ime = s.ime := by cases r <;> rfl

@[simp] theorem State.setReg_halted (s : State) (r : Reg8) (v : Byte) :
    (s.setReg r v).halted = s.halted := by cases r <;> rfl

@[simp] theorem State.setReg_fault (s : State) (r : Reg8) (v : Byte) :
    (s.setReg r v).fault = s.fault := by cases r <;> rfl

@[simp] theorem State.setReg_mem (s : State) (r : Reg8) (v : Byte) :
    (s.setReg r v).mem = s.mem := by cases r <;> rfl

@[simp] theorem State.setReg_answers (s : State) (r : Reg8) (v : Byte) :
    (s.setReg r v).answers = s.answers := by cases r <;> rfl

@[simp] theorem State.setReg_inputs (s : State) (r : Reg8) (v : Byte) :
    (s.setReg r v).inputs = s.inputs := by cases r <;> rfl

@[simp] theorem State.setReg_trace (s : State) (r : Reg8) (v : Byte) :
    (s.setReg r v).trace = s.trace := by cases r <;> rfl

@[simp] theorem State.setReg_result (s : State) (r : Reg8) (v : Byte) :
    (s.setReg r v).result = s.result := by cases r <;> rfl

@[simp] theorem State.setReg_cfg (s : State) (r : Reg8) (v : Byte) :
    (s.setReg r v).cfg = s.cfg := by cases r <;> rfl

/-! ### `setReg16` -/

@[simp] theorem State.setReg16_a (s : State) (rr : Reg16) (w : Word) :
    (s.setReg16 rr w).a = s.a := by cases rr <;> rfl

@[simp] theorem State.setReg16_b (s : State) (rr : Reg16) (w : Word) :
    (s.setReg16 rr w).b = if rr = .BC then hiByte w else s.b := by cases rr <;> rfl

@[simp] theorem State.setReg16_c (s : State) (rr : Reg16) (w : Word) :
    (s.setReg16 rr w).c = if rr = .BC then loByte w else s.c := by cases rr <;> rfl

@[simp] theorem State.setReg16_d (s : State) (rr : Reg16) (w : Word) :
    (s.setReg16 rr w).d = if rr = .DE then hiByte w else s.d := by cases rr <;> rfl

@[simp] theorem State.setReg16_e (s : State) (rr : Reg16) (w : Word) :
    (s.setReg16 rr w).e = if rr = .DE then loByte w else s.e := by cases rr <;> rfl

@[simp] theorem State.setReg16_h (s : State) (rr : Reg16) (w : Word) :
    (s.setReg16 rr w).h = if rr = .HL then hiByte w else s.h := by cases rr <;> rfl

@[simp] theorem State.setReg16_l (s : State) (rr : Reg16) (w : Word) :
    (s.setReg16 rr w).l = if rr = .HL then loByte w else s.l := by cases rr <;> rfl

@[simp] theorem State.setReg16_flags (s : State) (rr : Reg16) (w : Word) :
    (s.setReg16 rr w).flags = s.flags := by cases rr <;> rfl

@[simp] theorem State.setReg16_sp (s : State) (rr : Reg16) (w : Word) :
    (s.setReg16 rr w).sp = if rr = .SP then w else s.sp := by cases rr <;> rfl

@[simp] theorem State.setReg16_pc (s : State) (rr : Reg16) (w : Word) :
    (s.setReg16 rr w).pc = s.pc := by cases rr <;> rfl

@[simp] theorem State.setReg16_ime (s : State) (rr : Reg16) (w : Word) :
    (s.setReg16 rr w).ime = s.ime := by cases rr <;> rfl

@[simp] theorem State.setReg16_halted (s : State) (rr : Reg16) (w : Word) :
    (s.setReg16 rr w).halted = s.halted := by cases rr <;> rfl

@[simp] theorem State.setReg16_fault (s : State) (rr : Reg16) (w : Word) :
    (s.setReg16 rr w).fault = s.fault := by cases rr <;> rfl

@[simp] theorem State.setReg16_mem (s : State) (rr : Reg16) (w : Word) :
    (s.setReg16 rr w).mem = s.mem := by cases rr <;> rfl

@[simp] theorem State.setReg16_answers (s : State) (rr : Reg16) (w : Word) :
    (s.setReg16 rr w).answers = s.answers := by cases rr <;> rfl

@[simp] theorem State.setReg16_inputs (s : State) (rr : Reg16) (w : Word) :
    (s.setReg16 rr w).inputs = s.inputs := by cases rr <;> rfl

@[simp] theorem State.setReg16_trace (s : State) (rr : Reg16) (w : Word) :
    (s.setReg16 rr w).trace = s.trace := by cases rr <;> rfl

@[simp] theorem State.setReg16_result (s : State) (rr : Reg16) (w : Word) :
    (s.setReg16 rr w).result = s.result := by cases rr <;> rfl

@[simp] theorem State.setReg16_cfg (s : State) (rr : Reg16) (w : Word) :
    (s.setReg16 rr w).cfg = s.cfg := by cases rr <;> rfl

/-! ### `setStackPair` -/

@[simp] theorem State.setStackPair_a (s : State) (rr : StackPair) (w : Word) :
    (s.setStackPair rr w).a = if rr = .AF then hiByte w else s.a := by cases rr <;> rfl

@[simp] theorem State.setStackPair_b (s : State) (rr : StackPair) (w : Word) :
    (s.setStackPair rr w).b = if rr = .BC then hiByte w else s.b := by cases rr <;> rfl

@[simp] theorem State.setStackPair_c (s : State) (rr : StackPair) (w : Word) :
    (s.setStackPair rr w).c = if rr = .BC then loByte w else s.c := by cases rr <;> rfl

@[simp] theorem State.setStackPair_d (s : State) (rr : StackPair) (w : Word) :
    (s.setStackPair rr w).d = if rr = .DE then hiByte w else s.d := by cases rr <;> rfl

@[simp] theorem State.setStackPair_e (s : State) (rr : StackPair) (w : Word) :
    (s.setStackPair rr w).e = if rr = .DE then loByte w else s.e := by cases rr <;> rfl

@[simp] theorem State.setStackPair_h (s : State) (rr : StackPair) (w : Word) :
    (s.setStackPair rr w).h = if rr = .HL then hiByte w else s.h := by cases rr <;> rfl

@[simp] theorem State.setStackPair_l (s : State) (rr : StackPair) (w : Word) :
    (s.setStackPair rr w).l = if rr = .HL then loByte w else s.l := by cases rr <;> rfl

@[simp] theorem State.setStackPair_flags (s : State) (rr : StackPair) (w : Word) :
    (s.setStackPair rr w).flags = if rr = .AF then Flags.ofByte (loByte w) else s.flags := by cases rr <;> rfl

@[simp] theorem State.setStackPair_sp (s : State) (rr : StackPair) (w : Word) :
    (s.setStackPair rr w).sp = s.sp := by cases rr <;> rfl

@[simp] theorem State.setStackPair_pc (s : State) (rr : StackPair) (w : Word) :
    (s.setStackPair rr w).pc = s.pc := by cases rr <;> rfl

@[simp] theorem State.setStackPair_ime (s : State) (rr : StackPair) (w : Word) :
    (s.setStackPair rr w).ime = s.ime := by cases rr <;> rfl

@[simp] theorem State.setStackPair_halted (s : State) (rr : StackPair) (w : Word) :
    (s.setStackPair rr w).halted = s.halted := by cases rr <;> rfl

@[simp] theorem State.setStackPair_fault (s : State) (rr : StackPair) (w : Word) :
    (s.setStackPair rr w).fault = s.fault := by cases rr <;> rfl

@[simp] theorem State.setStackPair_mem (s : State) (rr : StackPair) (w : Word) :
    (s.setStackPair rr w).mem = s.mem := by cases rr <;> rfl

@[simp] theorem State.setStackPair_answers (s : State) (rr : StackPair) (w : Word) :
    (s.setStackPair rr w).answers = s.answers := by cases rr <;> rfl

@[simp] theorem State.setStackPair_inputs (s : State) (rr : StackPair) (w : Word) :
    (s.setStackPair rr w).inputs = s.inputs := by cases rr <;> rfl

@[simp] theorem State.setStackPair_trace (s : State) (rr : StackPair) (w : Word) :
    (s.setStackPair rr w).trace = s.trace := by cases rr <;> rfl

@[simp] theorem State.setStackPair_result (s : State) (rr : StackPair) (w : Word) :
    (s.setStackPair rr w).result = s.result := by cases rr <;> rfl

@[simp] theorem State.setStackPair_cfg (s : State) (rr : StackPair) (w : Word) :
    (s.setStackPair rr w).cfg = s.cfg := by cases rr <;> rfl

end Sys2Proof.Machine
end

