-- ==== Sys2Proof/Laws/Ops.lean ====
section
/-! SUPPORT. One lemma per shared operation that says everything it can do, for callers to cite instead
of unfolding it. -/

namespace Sys2Proof.Machine

/-! ### The bus -/

@[simp] theorem State.busRead_eq (s : State) (a : Word) :
    s.busRead a = (s.busAnswer a, s.afterRead a) := rfl

/-- On the plain RAM a read answers the byte there (R67). -/
theorem State.busAnswer_plainRAM {s : State} (h : s.answers = []) (a : Word) :
    s.busAnswer a = s.mem.read a := by simp [State.busAnswer, h]

theorem State.busAnswer_scripted {s : State} {v : Byte} {rest : List Byte}
    (h : s.answers = v :: rest) (a : Word) : s.busAnswer a = v := by simp [State.busAnswer, h]

/-- What the bus answers depends on its pending answers and its memory alone. -/
theorem State.busAnswer_congr {s t : State} (ha : s.answers = t.answers) (hm : s.mem = t.mem)
    (a : Word) : s.busAnswer a = t.busAnswer a := by simp [State.busAnswer, ha, hm]

theorem sub_one_sub_one (w : Word) : w - 1#16 - 1#16 = w - 2#16 := by bv_omega

theorem add_one_add_one (w : Word) : w + 1#16 + 1#16 = w + 2#16 := by bv_omega

theorem sub_one_ne_sub_two (w : Word) : w - 1#16 ≠ w - 2#16 := by
  intro h; have := congrArg BitVec.toNat h; revert this; bv_omega

/-! ### The stack (R155) -/

/-- Everything `push16` does. -/
theorem State.push16_eq (s : State) (w : Word) :
    s.push16 w =
      { s with
        sp := s.sp - 2#16
        mem := (s.mem.write (s.sp - 1#16) (hiByte w)).write (s.sp - 2#16) (loByte w)
        trace := s.trace ++ [.write (s.sp - 1#16) (hiByte w), .write (s.sp - 2#16) (loByte w)] } := by
  simp [State.push16, State.busWrite, sub_one_sub_one]

/-- Everything `pop16` does. -/
theorem State.pop16_eq (s : State) :
    s.pop16 =
      (joinBytes ((s.afterRead s.sp).busAnswer (s.sp + 1#16)) (s.busAnswer s.sp),
        { s with
          sp := s.sp + 2#16
          answers := s.answers.tail.tail
          trace := s.trace ++ [.read s.sp (s.busAnswer s.sp),
            .read (s.sp + 1#16) ((s.afterRead s.sp).busAnswer (s.sp + 1#16))] }) := by
  simp only [State.pop16, State.busRead_eq, State.afterRead, State.busAnswer, add_one_add_one,
    List.append_assoc, List.singleton_append]

/-! ### Interrupts (R181 to R185) -/

/-- No line is pending exactly when the five bits are clear. -/
theorem firstPending_none (pend : Byte) :
    firstPending pend = none ↔ ∀ k, bitAt pend (lineBit k) = false := by
  simp only [firstPending, List.find?_eq_none, Bool.not_eq_true]
  exact ⟨fun h k => h k (by cases k <;> simp), fun h k _ => h k⟩

/-- The line served is pending, and no line of higher priority is (R181, R186). -/
theorem firstPending_some (pend : Byte) (line : Line) :
    firstPending pend = some line ↔
      bitAt pend (lineBit line) = true ∧
        ∀ k, lineBit k < lineBit line → bitAt pend (lineBit k) = false := by
  constructor
  · intro h
    simp only [firstPending, List.find?_cons] at h
    repeat' split at h
    all_goals first
      | (injection h with h; subst h
         refine ⟨by assumption, fun k hk => ?_⟩
         cases k <;> first | assumption | exact absurd hk (by decide))
      | simp at h
  · rintro ⟨h, hlt⟩
    have h0 := hlt .vblank
    have h1 := hlt .lcdStat
    have h2 := hlt .timer
    have h3 := hlt .serial
    cases line <;> simp_all [firstPending, lineBit]

/-- Everything `takeInterrupt` does (R184). -/
theorem State.takeInterrupt_eq (s : State) (line : Line) (ifl : Byte) :
    s.takeInterrupt line ifl =
      { s with
        ime := false
        halted := false
        sp := s.sp - 2#16
        pc := lineVector line
        mem := ((s.mem.write s.cfg.ifAddr (ifl &&& ~~~ lineMask line)).write
          (s.sp - 1#16) (hiByte s.pc)).write (s.sp - 2#16) (loByte s.pc)
        trace := s.trace ++ [.write s.cfg.ifAddr (ifl &&& ~~~ lineMask line),
          .write (s.sp - 1#16) (hiByte s.pc), .write (s.sp - 2#16) (loByte s.pc)]
        result := s.result.addCycles s.cfg.intDispatchCycles } := by
  simp [State.takeInterrupt, State.push16_eq, State.busWrite]

/-- With IME clear the interrupt controller does nothing (R183). -/
theorem State.boundary_disabled {s : State} (h : s.ime = false) : s.boundary = s := by
  simp [State.boundary, h]

/-- Everything the scan does with IME set (R183): it reads IE, then IF, and dispatches the first
pending line or nothing. -/
theorem State.boundary_enabled {s : State} (h : s.ime = true) :
    s.boundary =
      match firstPending (s.busAnswer s.cfg.ieAddr &&&
          (s.afterRead s.cfg.ieAddr).busAnswer s.cfg.ifAddr &&& 0x1F#8) with
      | none => (s.afterRead s.cfg.ieAddr).afterRead s.cfg.ifAddr
      | some line => ((s.afterRead s.cfg.ieAddr).afterRead s.cfg.ifAddr).takeInterrupt line
          ((s.afterRead s.cfg.ieAddr).busAnswer s.cfg.ifAddr) := if_pos h

/-- What every boundary leaves, whether or not it dispatches: the registers, the flags, the recorded
fault, the parameters and the pending inputs. -/
theorem State.boundary_keeps (s : State) :
    s.boundary.a = s.a ∧ s.boundary.b = s.b ∧ s.boundary.c = s.c ∧ s.boundary.d = s.d ∧
      s.boundary.e = s.e ∧ s.boundary.h = s.h ∧ s.boundary.l = s.l ∧
      s.boundary.flags = s.flags ∧ s.boundary.fault = s.fault ∧ s.boundary.cfg = s.cfg ∧
      s.boundary.inputs = s.inputs := by
  cases h : s.ime
  · simp [State.boundary_disabled h]
  · rw [State.boundary_enabled h]
    split <;> simp [State.takeInterrupt_eq]

/-- A boundary keeps the canonical form of the memory. -/
theorem State.boundary_wf {s : State} (h : s.mem.wf) : s.boundary.mem.wf := by
  cases hi : s.ime
  · simpa [State.boundary_disabled hi] using h
  · rw [State.boundary_enabled hi]
    split
    · simpa using h
    · simpa [State.takeInterrupt_eq] using
        Memory.write_wf (Memory.write_wf (Memory.write_wf h _ _) _ _) _ _

/-- A boundary wakes a core or leaves it: it never halts one. -/
theorem State.boundary_halted (s : State) (h : s.halted = false) : s.boundary.halted = false := by
  cases hi : s.ime
  · simpa [State.boundary_disabled hi] using h
  · rw [State.boundary_enabled hi]
    split
    · simpa using h
    · simp [State.takeInterrupt_eq]

/-! ### The environment (R61, R182) -/

/-- No action of the environment touches the parameters. -/
@[simp] theorem State.applyAction_cfg (s : State) (x : EnvAction) : (s.applyAction x).cfg = s.cfg := by
  cases x
  · rfl
  · rfl
  · simp only [State.applyAction, State.resetCore, State.resetWith]
    split <;> rfl

/-- Every action of the environment keeps the canonical form of the memory. -/
theorem State.applyAction_wf {s : State} (h : s.mem.wf) (x : EnvAction) : (s.applyAction x).mem.wf := by
  cases x
  · exact Memory.write_wf h _ _
  · exact Memory.write_wf h _ _
  · exact h

theorem State.foldl_applyAction_cfg (acts : List EnvAction) (s : State) :
    (acts.foldl State.applyAction s).cfg = s.cfg := by
  induction acts generalizing s with
  | nil => rfl
  | cons x acts ih => simp [ih]

theorem State.foldl_applyAction_wf (acts : List EnvAction) {s : State} (h : s.mem.wf) :
    (acts.foldl State.applyAction s).mem.wf := by
  induction acts generalizing s with
  | nil => exact h
  | cons x acts ih => exact ih (State.applyAction_wf h x)

theorem State.deliver_nil {s : State} (h : s.inputs = []) : s.deliver = s := by
  simp [State.deliver, h]

theorem State.deliver_cons {s : State} {acts : List EnvAction} {rest : List (List EnvAction)}
    (h : s.inputs = acts :: rest) :
    s.deliver = acts.foldl State.applyAction { s with inputs := rest } := by
  simp [State.deliver, h]

@[simp] theorem State.deliver_cfg (s : State) : s.deliver.cfg = s.cfg := by
  cases h : s.inputs
  · rw [State.deliver_nil h]
  · rw [State.deliver_cons h, State.foldl_applyAction_cfg]

theorem State.deliver_wf {s : State} (h : s.mem.wf) : s.deliver.mem.wf := by
  cases hi : s.inputs
  · rwa [State.deliver_nil hi]
  · rw [State.deliver_cons hi]
    exact State.foldl_applyAction_wf _ h

/-! ### The step driver (R176) -/

/-- A faulted core returns its fault and does nothing (R176, R180). -/
theorem stepCore_faulted {s : State} {f : Fault} (h : s.fault = some f) :
    stepCore s = .next { s with result := .err f } := by simp [stepCore, h]

/-- A halted core ticks (R177). -/
theorem stepCore_halted {s : State} (hf : s.fault = none) (hh : s.halted = true) :
    stepCore s = .next s.haltTick.boundary := by simp [stepCore, hf, hh]

/-- A running core fetches and executes (R176). -/
theorem stepCore_running {s : State} (hf : s.fault = none) (hh : s.halted = false) :
    stepCore s = finishStep (exec s.fetch.1 s.fetch.2) := by simp [stepCore, hf, hh]

/-- The core fetches at PC and changes nothing but the bus's answers and the trace. -/
theorem State.fetch_keeps (s : State) :
    s.fetch.2 = { s with answers := s.fetch.2.answers, trace := s.fetch.2.trace } := by
  simp only [State.fetch]
  split
  · rfl
  · rfl
  · rfl
  · split <;> rfl
  · rfl

end Sys2Proof.Machine
end

