-- ==== Sys2Proof/Tests/Slice0.lean ====
section
/-! SUPPORT. Tests: the smoke test of well-formedness, every row of the opcode table decoded from its
words, vectors of spec/95_test_vectors.md one step each, and for every statement with hypotheses a
state and operands that meet them. The expected results are the spec's own: its vector's id, or the
rule, stands at each. -/

namespace Sys2Proof.Tests
open Sys2Proof.Machine Sys2Proof.Claims

/-- The start state of the vectors (95, section 0): every register 0, IME clear, PC at 0x0100. -/
def base : State := { State.reset with ime := false, pc := 0x0100#16 }

/-- One step with the bytes loaded at PC. -/
def run (bytes : List Byte) (s : State) : Result := step (s.placeAtPC bytes)

/-- What `f` shows of the state a step leaves; nothing if it leaves none. -/
def look {α : Type} (f : State → α) (r : Result) : Option α :=
  match r with
  | .next t => some (f t)
  | .fault _ => none
  | .refused _ => none

/-- Each list of bytes decodes, whole, to the instruction beside it. -/
def decodes (l : List (List Byte × Instr)) : Bool := l.all fun x => decode x.1 == .ok x.2 []

/-! ### Well-formedness -/

/-- The prefix row alone is ill-formed, whatever its second byte (R86). -/
theorem test_prefix_row_is_ill_formed :
    (Instr.prefix_CB 0x00#8).wellFormed = false ∧ (Instr.prefix_CB 0xFF#8).wellFormed = false := by
  decide

theorem test_instructions_are_well_formed :
    Instr.rst_38.wellFormed = true ∧ (Instr.stop 0xFF#8).wellFormed = true ∧
      Instr.set_7_A.wellFormed = true ∧ (Instr.ld_SP_d16 0xFFFF#16).wellFormed = true := by decide

/-! ### Decoding: a word of each family, bit by bit from the spec's encoding -/

/-- R93 to R97, R104, R108, R113. -/
theorem test_decode_bits_load : decodes
    [([0b01111000#8], .ld_A_B), ([0b01100110#8], .ld_H_mHL), ([0b01110101#8], .ld_mHL_L),
     ([0b00001110#8, 0b01010101#8], .ld_C_d8 0x55#8), ([0b11100000#8, 0x0F#8], .ldh_ma8_A 0x0F#8),
     ([0b11101010#8, 0x00#8, 0xC0#8], .ld_ma16_A 0xC000#16), ([0b11110101#8], .push_AF)] = true := by
  decide

/-- R116, R125, R129. -/
theorem test_decode_bits_alu8 : decodes
    [([0b10001011#8], .adc_A_E), ([0b10111110#8], .cp_mHL), ([0b11101110#8, 0x0F#8], .xor_d8 0x0F#8),
     ([0b00101100#8], .inc_L), ([0b00110101#8], .dec_mHL), ([0b00100111#8], .daa)] = true := by decide

/-- R133 to R137. -/
theorem test_decode_bits_alu16 : decodes
    [([0b00111001#8], .add_HL_SP), ([0b00010011#8], .inc_DE), ([0b00001011#8], .dec_BC),
     ([0b11101000#8, 0x80#8], .add_SP_e8 0x80#8)] = true := by decide

/-- R138, R146, R149. -/
theorem test_decode_bits_rotate : decodes
    [([0b00010111#8], .rla), ([0b11001011#8, 0b00011110#8], .rr_mHL),
     ([0b11001011#8, 0b00110111#8], .swap_A)] = true := by decide

/-- R151 to R153. -/
theorem test_decode_bits_bit : decodes
    [([0b11001011#8, 0b01111100#8], .bit_7_H), ([0b11001011#8, 0b10000110#8], .res_0_mHL),
     ([0b11001011#8, 0b11111111#8], .set_7_A)] = true := by decide

/-- R157 to R167. -/
theorem test_decode_bits_control : decodes
    [([0b11001010#8, 0x00#8, 0x20#8], .jp_Z_a16 0x2000#16), ([0b00110000#8, 0xFE#8], .jr_NC_e8 0xFE#8),
     ([0b11011100#8, 0x00#8, 0x40#8], .call_C_a16 0x4000#16), ([0b11000000#8], .ret_NZ),
     ([0b11101111#8], .rst_28), ([0b11011001#8], .reti)] = true := by decide

/-- R168 to R172, R85, R89. -/
theorem test_decode_bits_system : decodes
    [([0b01110110#8], .halt), ([0b00010000#8, 0xAA#8], .stop 0xAA#8), ([0b11110011#8], .di),
     ([0b11111011#8], .ei), ([0b11010011#8], .undefined_D3)] = true := by decide

/-- Bytes that end inside an instruction are refused by name (R70). -/
theorem test_decode_refuses_truncated :
    decode [] = .refused .noBytes ∧ decode [0xCD#8, 0x00#8] = .refused (.truncated 0xCD#8) ∧
      decode [0xCB#8] = .refused (.truncated 0xCB#8) := by decide

/-- A CB word of the table is its two bytes read as one big-endian value; the others are not. -/
theorem test_decodeTableWord :
    decodeTableWord 8 0x80 = some .add_A_B ∧ decodeTableWord 16 0xCB37 = some .swap_A ∧
      decodeTableWord 24 0x1234CD = some (.call_a16 0x1234#16) := by decide

/-! ### Decoding: every row of the opcode table, operands 0x9C and 0x1234 -/

theorem test_decode_row_0x : decodes
    [([0x00#8], .nop), ([0x01#8, 0x34#8, 0x12#8], .ld_BC_d16 0x1234#16), ([0x02#8], .ld_mBC_A),
     ([0x03#8], .inc_BC), ([0x04#8], .inc_B), ([0x05#8], .dec_B),
     ([0x06#8, 0x9C#8], .ld_B_d8 0x9C#8), ([0x07#8], .rlca),
     ([0x08#8, 0x34#8, 0x12#8], .ld_ma16_SP 0x1234#16), ([0x09#8], .add_HL_BC),
     ([0x0A#8], .ld_A_mBC), ([0x0B#8], .dec_BC), ([0x0C#8], .inc_C), ([0x0D#8], .dec_C),
     ([0x0E#8, 0x9C#8], .ld_C_d8 0x9C#8), ([0x0F#8], .rrca)] = true := by decide

theorem test_decode_row_1x : decodes
    [([0x10#8, 0x9C#8], .stop 0x9C#8), ([0x11#8, 0x34#8, 0x12#8], .ld_DE_d16 0x1234#16),
     ([0x12#8], .ld_mDE_A), ([0x13#8], .inc_DE), ([0x14#8], .inc_D), ([0x15#8], .dec_D),
     ([0x16#8, 0x9C#8], .ld_D_d8 0x9C#8), ([0x17#8], .rla), ([0x18#8, 0x9C#8], .jr_e8 0x9C#8),
     ([0x19#8], .add_HL_DE), ([0x1A#8], .ld_A_mDE), ([0x1B#8], .dec_DE), ([0x1C#8], .inc_E),
     ([0x1D#8], .dec_E), ([0x1E#8, 0x9C#8], .ld_E_d8 0x9C#8), ([0x1F#8], .rra)] = true := by decide

theorem test_decode_row_2x : decodes
    [([0x20#8, 0x9C#8], .jr_NZ_e8 0x9C#8), ([0x21#8, 0x34#8, 0x12#8], .ld_HL_d16 0x1234#16),
     ([0x22#8], .ld_mHLinc_A), ([0x23#8], .inc_HL), ([0x24#8], .inc_H), ([0x25#8], .dec_H),
     ([0x26#8, 0x9C#8], .ld_H_d8 0x9C#8), ([0x27#8], .daa), ([0x28#8, 0x9C#8], .jr_Z_e8 0x9C#8),
     ([0x29#8], .add_HL_HL), ([0x2A#8], .ld_A_mHLinc), ([0x2B#8], .dec_HL), ([0x2C#8], .inc_L),
     ([0x2D#8], .dec_L), ([0x2E#8, 0x9C#8], .ld_L_d8 0x9C#8), ([0x2F#8], .cpl)] = true := by decide

theorem test_decode_row_3x : decodes
    [([0x30#8, 0x9C#8], .jr_NC_e8 0x9C#8), ([0x31#8, 0x34#8, 0x12#8], .ld_SP_d16 0x1234#16),
     ([0x32#8], .ld_mHLdec_A), ([0x33#8], .inc_SP), ([0x34#8], .inc_mHL), ([0x35#8], .dec_mHL),
     ([0x36#8, 0x9C#8], .ld_mHL_d8 0x9C#8), ([0x37#8], .scf), ([0x38#8, 0x9C#8], .jr_C_e8 0x9C#8),
     ([0x39#8], .add_HL_SP), ([0x3A#8], .ld_A_mHLdec), ([0x3B#8], .dec_SP), ([0x3C#8], .inc_A),
     ([0x3D#8], .dec_A), ([0x3E#8, 0x9C#8], .ld_A_d8 0x9C#8), ([0x3F#8], .ccf)] = true := by decide

theorem test_decode_row_4x : decodes
    [([0x40#8], .ld_B_B), ([0x41#8], .ld_B_C), ([0x42#8], .ld_B_D), ([0x43#8], .ld_B_E),
     ([0x44#8], .ld_B_H), ([0x45#8], .ld_B_L), ([0x46#8], .ld_B_mHL), ([0x47#8], .ld_B_A),
     ([0x48#8], .ld_C_B), ([0x49#8], .ld_C_C), ([0x4A#8], .ld_C_D), ([0x4B#8], .ld_C_E),
     ([0x4C#8], .ld_C_H), ([0x4D#8], .ld_C_L), ([0x4E#8], .ld_C_mHL), ([0x4F#8], .ld_C_A)] = true := by decide

theorem test_decode_row_5x : decodes
    [([0x50#8], .ld_D_B), ([0x51#8], .ld_D_C), ([0x52#8], .ld_D_D), ([0x53#8], .ld_D_E),
     ([0x54#8], .ld_D_H), ([0x55#8], .ld_D_L), ([0x56#8], .ld_D_mHL), ([0x57#8], .ld_D_A),
     ([0x58#8], .ld_E_B), ([0x59#8], .ld_E_C), ([0x5A#8], .ld_E_D), ([0x5B#8], .ld_E_E),
     ([0x5C#8], .ld_E_H), ([0x5D#8], .ld_E_L), ([0x5E#8], .ld_E_mHL), ([0x5F#8], .ld_E_A)] = true := by decide

theorem test_decode_row_6x : decodes
    [([0x60#8], .ld_H_B), ([0x61#8], .ld_H_C), ([0x62#8], .ld_H_D), ([0x63#8], .ld_H_E),
     ([0x64#8], .ld_H_H), ([0x65#8], .ld_H_L), ([0x66#8], .ld_H_mHL), ([0x67#8], .ld_H_A),
     ([0x68#8], .ld_L_B), ([0x69#8], .ld_L_C), ([0x6A#8], .ld_L_D), ([0x6B#8], .ld_L_E),
     ([0x6C#8], .ld_L_H), ([0x6D#8], .ld_L_L), ([0x6E#8], .ld_L_mHL), ([0x6F#8], .ld_L_A)] = true := by decide

theorem test_decode_row_7x : decodes
    [([0x70#8], .ld_mHL_B), ([0x71#8], .ld_mHL_C), ([0x72#8], .ld_mHL_D), ([0x73#8], .ld_mHL_E),
     ([0x74#8], .ld_mHL_H), ([0x75#8], .ld_mHL_L), ([0x76#8], .halt), ([0x77#8], .ld_mHL_A),
     ([0x78#8], .ld_A_B), ([0x79#8], .ld_A_C), ([0x7A#8], .ld_A_D), ([0x7B#8], .ld_A_E),
     ([0x7C#8], .ld_A_H), ([0x7D#8], .ld_A_L), ([0x7E#8], .ld_A_mHL), ([0x7F#8], .ld_A_A)] = true := by decide

theorem test_decode_row_8x : decodes
    [([0x80#8], .add_A_B), ([0x81#8], .add_A_C), ([0x82#8], .add_A_D), ([0x83#8], .add_A_E),
     ([0x84#8], .add_A_H), ([0x85#8], .add_A_L), ([0x86#8], .add_A_mHL), ([0x87#8], .add_A_A),
     ([0x88#8], .adc_A_B), ([0x89#8], .adc_A_C), ([0x8A#8], .adc_A_D), ([0x8B#8], .adc_A_E),
     ([0x8C#8], .adc_A_H), ([0x8D#8], .adc_A_L), ([0x8E#8], .adc_A_mHL), ([0x8F#8], .adc_A_A)] = true := by decide

theorem test_decode_row_9x : decodes
    [([0x90#8], .sub_B), ([0x91#8], .sub_C), ([0x92#8], .sub_D), ([0x93#8], .sub_E),
     ([0x94#8], .sub_H), ([0x95#8], .sub_L), ([0x96#8], .sub_mHL), ([0x97#8], .sub_A),
     ([0x98#8], .sbc_A_B), ([0x99#8], .sbc_A_C), ([0x9A#8], .sbc_A_D), ([0x9B#8], .sbc_A_E),
     ([0x9C#8], .sbc_A_H), ([0x9D#8], .sbc_A_L), ([0x9E#8], .sbc_A_mHL), ([0x9F#8], .sbc_A_A)] = true := by decide

theorem test_decode_row_Ax : decodes
    [([0xA0#8], .and_B), ([0xA1#8], .and_C), ([0xA2#8], .and_D), ([0xA3#8], .and_E),
     ([0xA4#8], .and_H), ([0xA5#8], .and_L), ([0xA6#8], .and_mHL), ([0xA7#8], .and_A),
     ([0xA8#8], .xor_B), ([0xA9#8], .xor_C), ([0xAA#8], .xor_D), ([0xAB#8], .xor_E),
     ([0xAC#8], .xor_H), ([0xAD#8], .xor_L), ([0xAE#8], .xor_mHL), ([0xAF#8], .xor_A)] = true := by decide

theorem test_decode_row_Bx : decodes
    [([0xB0#8], .or_B), ([0xB1#8], .or_C), ([0xB2#8], .or_D), ([0xB3#8], .or_E), ([0xB4#8], .or_H),
     ([0xB5#8], .or_L), ([0xB6#8], .or_mHL), ([0xB7#8], .or_A), ([0xB8#8], .cp_B),
     ([0xB9#8], .cp_C), ([0xBA#8], .cp_D), ([0xBB#8], .cp_E), ([0xBC#8], .cp_H), ([0xBD#8], .cp_L),
     ([0xBE#8], .cp_mHL), ([0xBF#8], .cp_A)] = true := by decide

theorem test_decode_row_Cx : decodes
    [([0xC0#8], .ret_NZ), ([0xC1#8], .pop_BC), ([0xC2#8, 0x34#8, 0x12#8], .jp_NZ_a16 0x1234#16),
     ([0xC3#8, 0x34#8, 0x12#8], .jp_a16 0x1234#16),
     ([0xC4#8, 0x34#8, 0x12#8], .call_NZ_a16 0x1234#16), ([0xC5#8], .push_BC),
     ([0xC6#8, 0x9C#8], .add_A_d8 0x9C#8), ([0xC7#8], .rst_00), ([0xC8#8], .ret_Z),
     ([0xC9#8], .ret), ([0xCA#8, 0x34#8, 0x12#8], .jp_Z_a16 0x1234#16),
     ([0xCC#8, 0x34#8, 0x12#8], .call_Z_a16 0x1234#16),
     ([0xCD#8, 0x34#8, 0x12#8], .call_a16 0x1234#16), ([0xCE#8, 0x9C#8], .adc_A_d8 0x9C#8),
     ([0xCF#8], .rst_08)] = true := by decide

theorem test_decode_row_Dx : decodes
    [([0xD0#8], .ret_NC), ([0xD1#8], .pop_DE), ([0xD2#8, 0x34#8, 0x12#8], .jp_NC_a16 0x1234#16),
     ([0xD3#8], .undefined_D3), ([0xD4#8, 0x34#8, 0x12#8], .call_NC_a16 0x1234#16),
     ([0xD5#8], .push_DE), ([0xD6#8, 0x9C#8], .sub_d8 0x9C#8), ([0xD7#8], .rst_10),
     ([0xD8#8], .ret_C), ([0xD9#8], .reti), ([0xDA#8, 0x34#8, 0x12#8], .jp_C_a16 0x1234#16),
     ([0xDB#8], .undefined_DB), ([0xDC#8, 0x34#8, 0x12#8], .call_C_a16 0x1234#16),
     ([0xDD#8], .undefined_DD), ([0xDE#8, 0x9C#8], .sbc_A_d8 0x9C#8), ([0xDF#8], .rst_18)] = true := by decide

theorem test_decode_row_Ex : decodes
    [([0xE0#8, 0x9C#8], .ldh_ma8_A 0x9C#8), ([0xE1#8], .pop_HL), ([0xE2#8], .ld_mC_A),
     ([0xE3#8], .undefined_E3), ([0xE4#8], .undefined_E4), ([0xE5#8], .push_HL),
     ([0xE6#8, 0x9C#8], .and_d8 0x9C#8), ([0xE7#8], .rst_20), ([0xE8#8, 0x9C#8], .add_SP_e8 0x9C#8),
     ([0xE9#8], .jp_HL), ([0xEA#8, 0x34#8, 0x12#8], .ld_ma16_A 0x1234#16),
     ([0xEB#8], .undefined_EB), ([0xEC#8], .undefined_EC), ([0xED#8], .undefined_ED),
     ([0xEE#8, 0x9C#8], .xor_d8 0x9C#8), ([0xEF#8], .rst_28)] = true := by decide

theorem test_decode_row_Fx : decodes
    [([0xF0#8, 0x9C#8], .ldh_A_ma8 0x9C#8), ([0xF1#8], .pop_AF), ([0xF2#8], .ld_A_mC),
     ([0xF3#8], .di), ([0xF4#8], .undefined_F4), ([0xF5#8], .push_AF),
     ([0xF6#8, 0x9C#8], .or_d8 0x9C#8), ([0xF7#8], .rst_30), ([0xF8#8, 0x9C#8], .ld_HL_SPe8 0x9C#8),
     ([0xF9#8], .ld_SP_HL), ([0xFA#8, 0x34#8, 0x12#8], .ld_A_ma16 0x1234#16), ([0xFB#8], .ei),
     ([0xFC#8], .undefined_FC), ([0xFD#8], .undefined_FD), ([0xFE#8, 0x9C#8], .cp_d8 0x9C#8),
     ([0xFF#8], .rst_38)] = true := by decide

theorem test_decode_row_CB_0x : decodes
    [([0xCB#8, 0x00#8], .rlc_B), ([0xCB#8, 0x01#8], .rlc_C), ([0xCB#8, 0x02#8], .rlc_D),
     ([0xCB#8, 0x03#8], .rlc_E), ([0xCB#8, 0x04#8], .rlc_H), ([0xCB#8, 0x05#8], .rlc_L),
     ([0xCB#8, 0x06#8], .rlc_mHL), ([0xCB#8, 0x07#8], .rlc_A), ([0xCB#8, 0x08#8], .rrc_B),
     ([0xCB#8, 0x09#8], .rrc_C), ([0xCB#8, 0x0A#8], .rrc_D), ([0xCB#8, 0x0B#8], .rrc_E),
     ([0xCB#8, 0x0C#8], .rrc_H), ([0xCB#8, 0x0D#8], .rrc_L), ([0xCB#8, 0x0E#8], .rrc_mHL),
     ([0xCB#8, 0x0F#8], .rrc_A)] = true := by decide

theorem test_decode_row_CB_1x : decodes
    [([0xCB#8, 0x10#8], .rl_B), ([0xCB#8, 0x11#8], .rl_C), ([0xCB#8, 0x12#8], .rl_D),
     ([0xCB#8, 0x13#8], .rl_E), ([0xCB#8, 0x14#8], .rl_H), ([0xCB#8, 0x15#8], .rl_L),
     ([0xCB#8, 0x16#8], .rl_mHL), ([0xCB#8, 0x17#8], .rl_A), ([0xCB#8, 0x18#8], .rr_B),
     ([0xCB#8, 0x19#8], .rr_C), ([0xCB#8, 0x1A#8], .rr_D), ([0xCB#8, 0x1B#8], .rr_E),
     ([0xCB#8, 0x1C#8], .rr_H), ([0xCB#8, 0x1D#8], .rr_L), ([0xCB#8, 0x1E#8], .rr_mHL),
     ([0xCB#8, 0x1F#8], .rr_A)] = true := by decide

theorem test_decode_row_CB_2x : decodes
    [([0xCB#8, 0x20#8], .sla_B), ([0xCB#8, 0x21#8], .sla_C), ([0xCB#8, 0x22#8], .sla_D),
     ([0xCB#8, 0x23#8], .sla_E), ([0xCB#8, 0x24#8], .sla_H), ([0xCB#8, 0x25#8], .sla_L),
     ([0xCB#8, 0x26#8], .sla_mHL), ([0xCB#8, 0x27#8], .sla_A), ([0xCB#8, 0x28#8], .sra_B),
     ([0xCB#8, 0x29#8], .sra_C), ([0xCB#8, 0x2A#8], .sra_D), ([0xCB#8, 0x2B#8], .sra_E),
     ([0xCB#8, 0x2C#8], .sra_H), ([0xCB#8, 0x2D#8], .sra_L), ([0xCB#8, 0x2E#8], .sra_mHL),
     ([0xCB#8, 0x2F#8], .sra_A)] = true := by decide

theorem test_decode_row_CB_3x : decodes
    [([0xCB#8, 0x30#8], .swap_B), ([0xCB#8, 0x31#8], .swap_C), ([0xCB#8, 0x32#8], .swap_D),
     ([0xCB#8, 0x33#8], .swap_E), ([0xCB#8, 0x34#8], .swap_H), ([0xCB#8, 0x35#8], .swap_L),
     ([0xCB#8, 0x36#8], .swap_mHL), ([0xCB#8, 0x37#8], .swap_A), ([0xCB#8, 0x38#8], .srl_B),
     ([0xCB#8, 0x39#8], .srl_C), ([0xCB#8, 0x3A#8], .srl_D), ([0xCB#8, 0x3B#8], .srl_E),
     ([0xCB#8, 0x3C#8], .srl_H), ([0xCB#8, 0x3D#8], .srl_L), ([0xCB#8, 0x3E#8], .srl_mHL),
     ([0xCB#8, 0x3F#8], .srl_A)] = true := by decide

theorem test_decode_row_CB_4x : decodes
    [([0xCB#8, 0x40#8], .bit_0_B), ([0xCB#8, 0x41#8], .bit_0_C), ([0xCB#8, 0x42#8], .bit_0_D),
     ([0xCB#8, 0x43#8], .bit_0_E), ([0xCB#8, 0x44#8], .bit_0_H), ([0xCB#8, 0x45#8], .bit_0_L),
     ([0xCB#8, 0x46#8], .bit_0_mHL), ([0xCB#8, 0x47#8], .bit_0_A), ([0xCB#8, 0x48#8], .bit_1_B),
     ([0xCB#8, 0x49#8], .bit_1_C), ([0xCB#8, 0x4A#8], .bit_1_D), ([0xCB#8, 0x4B#8], .bit_1_E),
     ([0xCB#8, 0x4C#8], .bit_1_H), ([0xCB#8, 0x4D#8], .bit_1_L), ([0xCB#8, 0x4E#8], .bit_1_mHL),
     ([0xCB#8, 0x4F#8], .bit_1_A)] = true := by decide

theorem test_decode_row_CB_5x : decodes
    [([0xCB#8, 0x50#8], .bit_2_B), ([0xCB#8, 0x51#8], .bit_2_C), ([0xCB#8, 0x52#8], .bit_2_D),
     ([0xCB#8, 0x53#8], .bit_2_E), ([0xCB#8, 0x54#8], .bit_2_H), ([0xCB#8, 0x55#8], .bit_2_L),
     ([0xCB#8, 0x56#8], .bit_2_mHL), ([0xCB#8, 0x57#8], .bit_2_A), ([0xCB#8, 0x58#8], .bit_3_B),
     ([0xCB#8, 0x59#8], .bit_3_C), ([0xCB#8, 0x5A#8], .bit_3_D), ([0xCB#8, 0x5B#8], .bit_3_E),
     ([0xCB#8, 0x5C#8], .bit_3_H), ([0xCB#8, 0x5D#8], .bit_3_L), ([0xCB#8, 0x5E#8], .bit_3_mHL),
     ([0xCB#8, 0x5F#8], .bit_3_A)] = true := by decide

theorem test_decode_row_CB_6x : decodes
    [([0xCB#8, 0x60#8], .bit_4_B), ([0xCB#8, 0x61#8], .bit_4_C), ([0xCB#8, 0x62#8], .bit_4_D),
     ([0xCB#8, 0x63#8], .bit_4_E), ([0xCB#8, 0x64#8], .bit_4_H), ([0xCB#8, 0x65#8], .bit_4_L),
     ([0xCB#8, 0x66#8], .bit_4_mHL), ([0xCB#8, 0x67#8], .bit_4_A), ([0xCB#8, 0x68#8], .bit_5_B),
     ([0xCB#8, 0x69#8], .bit_5_C), ([0xCB#8, 0x6A#8], .bit_5_D), ([0xCB#8, 0x6B#8], .bit_5_E),
     ([0xCB#8, 0x6C#8], .bit_5_H), ([0xCB#8, 0x6D#8], .bit_5_L), ([0xCB#8, 0x6E#8], .bit_5_mHL),
     ([0xCB#8, 0x6F#8], .bit_5_A)] = true := by decide

theorem test_decode_row_CB_7x : decodes
    [([0xCB#8, 0x70#8], .bit_6_B), ([0xCB#8, 0x71#8], .bit_6_C), ([0xCB#8, 0x72#8], .bit_6_D),
     ([0xCB#8, 0x73#8], .bit_6_E), ([0xCB#8, 0x74#8], .bit_6_H), ([0xCB#8, 0x75#8], .bit_6_L),
     ([0xCB#8, 0x76#8], .bit_6_mHL), ([0xCB#8, 0x77#8], .bit_6_A), ([0xCB#8, 0x78#8], .bit_7_B),
     ([0xCB#8, 0x79#8], .bit_7_C), ([0xCB#8, 0x7A#8], .bit_7_D), ([0xCB#8, 0x7B#8], .bit_7_E),
     ([0xCB#8, 0x7C#8], .bit_7_H), ([0xCB#8, 0x7D#8], .bit_7_L), ([0xCB#8, 0x7E#8], .bit_7_mHL),
     ([0xCB#8, 0x7F#8], .bit_7_A)] = true := by decide

theorem test_decode_row_CB_8x : decodes
    [([0xCB#8, 0x80#8], .res_0_B), ([0xCB#8, 0x81#8], .res_0_C), ([0xCB#8, 0x82#8], .res_0_D),
     ([0xCB#8, 0x83#8], .res_0_E), ([0xCB#8, 0x84#8], .res_0_H), ([0xCB#8, 0x85#8], .res_0_L),
     ([0xCB#8, 0x86#8], .res_0_mHL), ([0xCB#8, 0x87#8], .res_0_A), ([0xCB#8, 0x88#8], .res_1_B),
     ([0xCB#8, 0x89#8], .res_1_C), ([0xCB#8, 0x8A#8], .res_1_D), ([0xCB#8, 0x8B#8], .res_1_E),
     ([0xCB#8, 0x8C#8], .res_1_H), ([0xCB#8, 0x8D#8], .res_1_L), ([0xCB#8, 0x8E#8], .res_1_mHL),
     ([0xCB#8, 0x8F#8], .res_1_A)] = true := by decide

theorem test_decode_row_CB_9x : decodes
    [([0xCB#8, 0x90#8], .res_2_B), ([0xCB#8, 0x91#8], .res_2_C), ([0xCB#8, 0x92#8], .res_2_D),
     ([0xCB#8, 0x93#8], .res_2_E), ([0xCB#8, 0x94#8], .res_2_H), ([0xCB#8, 0x95#8], .res_2_L),
     ([0xCB#8, 0x96#8], .res_2_mHL), ([0xCB#8, 0x97#8], .res_2_A), ([0xCB#8, 0x98#8], .res_3_B),
     ([0xCB#8, 0x99#8], .res_3_C), ([0xCB#8, 0x9A#8], .res_3_D), ([0xCB#8, 0x9B#8], .res_3_E),
     ([0xCB#8, 0x9C#8], .res_3_H), ([0xCB#8, 0x9D#8], .res_3_L), ([0xCB#8, 0x9E#8], .res_3_mHL),
     ([0xCB#8, 0x9F#8], .res_3_A)] = true := by decide

theorem test_decode_row_CB_Ax : decodes
    [([0xCB#8, 0xA0#8], .res_4_B), ([0xCB#8, 0xA1#8], .res_4_C), ([0xCB#8, 0xA2#8], .res_4_D),
     ([0xCB#8, 0xA3#8], .res_4_E), ([0xCB#8, 0xA4#8], .res_4_H), ([0xCB#8, 0xA5#8], .res_4_L),
     ([0xCB#8, 0xA6#8], .res_4_mHL), ([0xCB#8, 0xA7#8], .res_4_A), ([0xCB#8, 0xA8#8], .res_5_B),
     ([0xCB#8, 0xA9#8], .res_5_C), ([0xCB#8, 0xAA#8], .res_5_D), ([0xCB#8, 0xAB#8], .res_5_E),
     ([0xCB#8, 0xAC#8], .res_5_H), ([0xCB#8, 0xAD#8], .res_5_L), ([0xCB#8, 0xAE#8], .res_5_mHL),
     ([0xCB#8, 0xAF#8], .res_5_A)] = true := by decide

theorem test_decode_row_CB_Bx : decodes
    [([0xCB#8, 0xB0#8], .res_6_B), ([0xCB#8, 0xB1#8], .res_6_C), ([0xCB#8, 0xB2#8], .res_6_D),
     ([0xCB#8, 0xB3#8], .res_6_E), ([0xCB#8, 0xB4#8], .res_6_H), ([0xCB#8, 0xB5#8], .res_6_L),
     ([0xCB#8, 0xB6#8], .res_6_mHL), ([0xCB#8, 0xB7#8], .res_6_A), ([0xCB#8, 0xB8#8], .res_7_B),
     ([0xCB#8, 0xB9#8], .res_7_C), ([0xCB#8, 0xBA#8], .res_7_D), ([0xCB#8, 0xBB#8], .res_7_E),
     ([0xCB#8, 0xBC#8], .res_7_H), ([0xCB#8, 0xBD#8], .res_7_L), ([0xCB#8, 0xBE#8], .res_7_mHL),
     ([0xCB#8, 0xBF#8], .res_7_A)] = true := by decide

theorem test_decode_row_CB_Cx : decodes
    [([0xCB#8, 0xC0#8], .set_0_B), ([0xCB#8, 0xC1#8], .set_0_C), ([0xCB#8, 0xC2#8], .set_0_D),
     ([0xCB#8, 0xC3#8], .set_0_E), ([0xCB#8, 0xC4#8], .set_0_H), ([0xCB#8, 0xC5#8], .set_0_L),
     ([0xCB#8, 0xC6#8], .set_0_mHL), ([0xCB#8, 0xC7#8], .set_0_A), ([0xCB#8, 0xC8#8], .set_1_B),
     ([0xCB#8, 0xC9#8], .set_1_C), ([0xCB#8, 0xCA#8], .set_1_D), ([0xCB#8, 0xCB#8], .set_1_E),
     ([0xCB#8, 0xCC#8], .set_1_H), ([0xCB#8, 0xCD#8], .set_1_L), ([0xCB#8, 0xCE#8], .set_1_mHL),
     ([0xCB#8, 0xCF#8], .set_1_A)] = true := by decide

theorem test_decode_row_CB_Dx : decodes
    [([0xCB#8, 0xD0#8], .set_2_B), ([0xCB#8, 0xD1#8], .set_2_C), ([0xCB#8, 0xD2#8], .set_2_D),
     ([0xCB#8, 0xD3#8], .set_2_E), ([0xCB#8, 0xD4#8], .set_2_H), ([0xCB#8, 0xD5#8], .set_2_L),
     ([0xCB#8, 0xD6#8], .set_2_mHL), ([0xCB#8, 0xD7#8], .set_2_A), ([0xCB#8, 0xD8#8], .set_3_B),
     ([0xCB#8, 0xD9#8], .set_3_C), ([0xCB#8, 0xDA#8], .set_3_D), ([0xCB#8, 0xDB#8], .set_3_E),
     ([0xCB#8, 0xDC#8], .set_3_H), ([0xCB#8, 0xDD#8], .set_3_L), ([0xCB#8, 0xDE#8], .set_3_mHL),
     ([0xCB#8, 0xDF#8], .set_3_A)] = true := by decide

theorem test_decode_row_CB_Ex : decodes
    [([0xCB#8, 0xE0#8], .set_4_B), ([0xCB#8, 0xE1#8], .set_4_C), ([0xCB#8, 0xE2#8], .set_4_D),
     ([0xCB#8, 0xE3#8], .set_4_E), ([0xCB#8, 0xE4#8], .set_4_H), ([0xCB#8, 0xE5#8], .set_4_L),
     ([0xCB#8, 0xE6#8], .set_4_mHL), ([0xCB#8, 0xE7#8], .set_4_A), ([0xCB#8, 0xE8#8], .set_5_B),
     ([0xCB#8, 0xE9#8], .set_5_C), ([0xCB#8, 0xEA#8], .set_5_D), ([0xCB#8, 0xEB#8], .set_5_E),
     ([0xCB#8, 0xEC#8], .set_5_H), ([0xCB#8, 0xED#8], .set_5_L), ([0xCB#8, 0xEE#8], .set_5_mHL),
     ([0xCB#8, 0xEF#8], .set_5_A)] = true := by decide

theorem test_decode_row_CB_Fx : decodes
    [([0xCB#8, 0xF0#8], .set_6_B), ([0xCB#8, 0xF1#8], .set_6_C), ([0xCB#8, 0xF2#8], .set_6_D),
     ([0xCB#8, 0xF3#8], .set_6_E), ([0xCB#8, 0xF4#8], .set_6_H), ([0xCB#8, 0xF5#8], .set_6_L),
     ([0xCB#8, 0xF6#8], .set_6_mHL), ([0xCB#8, 0xF7#8], .set_6_A), ([0xCB#8, 0xF8#8], .set_7_B),
     ([0xCB#8, 0xF9#8], .set_7_C), ([0xCB#8, 0xFA#8], .set_7_D), ([0xCB#8, 0xFB#8], .set_7_E),
     ([0xCB#8, 0xFC#8], .set_7_H), ([0xCB#8, 0xFD#8], .set_7_L), ([0xCB#8, 0xFE#8], .set_7_mHL),
     ([0xCB#8, 0xFF#8], .set_7_A)] = true := by decide

/-! ### Vectors of the families, one step each -/

/-- T40-02 (R93): LD A,A no-op. -/
theorem test_T40_02 :
    look (fun t => (t.flags.toByte, t.pc, t.result))
        (run [0x7F#8] { base with a := 0x5C#8, flags := Flags.ofByte 0xF0#8 }) =
      some (0xF0#8, 0x0101#16, .ok 4) := by decide

/-- T40-03 (R94): LD L,(HL) reads with old HL. -/
theorem test_T40_03 :
    look (fun t => (t.flags.toByte, t.l, t.pc, t.result))
        (run [0x6E#8] { base with h := 0xC0#8, l := 0xF0#8, mem := [(0xC0F0, 0x12#8)] }) =
      some (0x00#8, 0x12#8, 0x0101#16, .ok 8) := by decide

/-- T40-04 (R95): LD (HL),L. -/
theorem test_T40_04 :
    look (fun t => (t.flags.toByte, t.pc, t.mem.read 0xC0F0#16, t.result))
        (run [0x75#8] { base with h := 0xC0#8, l := 0xF0#8 }) =
      some (0x00#8, 0x0101#16, 0xF0#8, .ok 8) := by decide

/-- T40-06 (R97): LD (HL),0x00 over 0xAA. -/
theorem test_T40_06 :
    look (fun t => (t.flags.toByte, t.pc, t.mem.read 0xD000#16, t.result))
        (run [0x36#8, 0x00#8] { base with h := 0xD0#8, l := 0x00#8, mem := [(0xD000, 0xAA#8)] }) =
      some (0x00#8, 0x0102#16, 0x00#8, .ok 12) := by decide

/-- T40-07 (R98): LD A,(BC). -/
theorem test_T40_07 :
    look (fun t => (t.a, t.flags.toByte, t.pc, t.result))
        (run [0x0A#8] { base with b := 0xC1#8, c := 0x23#8, mem := [(0xC123, 0x9E#8)] }) =
      some (0x9E#8, 0x00#8, 0x0101#16, .ok 8) := by decide

/-- T40-08 (R99): LD (DE),A. -/
theorem test_T40_08 :
    look (fun t => (t.flags.toByte, t.pc, t.mem.read 0xC200#16, t.result))
        (run [0x12#8] { base with d := 0xC2#8, e := 0x00#8, a := 0x44#8 }) =
      some (0x00#8, 0x0101#16, 0x44#8, .ok 8) := by decide

/-- T40-09 (R100): LD (HL+),A at HL=0xFFFF wraps. -/
theorem test_T40_09 :
    look (fun t => (t.flags.toByte, t.h, t.l, t.pc, t.mem.read 0xFFFF#16, t.result))
        (run [0x22#8] { base with h := 0xFF#8, l := 0xFF#8, a := 0x07#8 }) =
      some (0x00#8, 0x00#8, 0x00#8, 0x0101#16, 0x07#8, .ok 8) := by decide

/-- T40-10 (R101): LD (HL-),A at HL=0x0000 wraps. -/
theorem test_T40_10 :
    look (fun t => (t.flags.toByte, t.h, t.l, t.pc, t.mem.read 0x0000#16, t.result))
        (run [0x32#8] { base with pc := 0x0200#16, h := 0x00#8, l := 0x00#8, a := 0x08#8 }) =
      some (0x00#8, 0xFF#8, 0xFF#8, 0x0201#16, 0x08#8, .ok 8) := by decide

/-- T40-11 (R102): LD A,(HL+). -/
theorem test_T40_11 :
    look (fun t => (t.a, t.flags.toByte, t.h, t.l, t.pc, t.result))
        (run [0x2A#8] { base with h := 0xC0#8, l := 0xFF#8, mem := [(0xC0FF, 0x66#8)] }) =
      some (0x66#8, 0x00#8, 0xC1#8, 0x00#8, 0x0101#16, .ok 8) := by decide

/-- T40-12 (R103): LD A,(HL-). -/
theorem test_T40_12 :
    look (fun t => (t.a, t.flags.toByte, t.h, t.l, t.pc, t.result))
        (run [0x3A#8] { base with h := 0xC1#8, l := 0x00#8, mem := [(0xC100, 0x67#8)] }) =
      some (0x67#8, 0x00#8, 0xC0#8, 0xFF#8, 0x0101#16, .ok 8) := by decide

/-- T40-13 (R104): LDH (0x80),A. -/
theorem test_T40_13 :
    look (fun t => (t.flags.toByte, t.pc, t.mem.read 0xFF80#16, t.result))
        (run [0xE0#8, 0x80#8] { base with a := 0x3D#8 }) =
      some (0x00#8, 0x0102#16, 0x3D#8, .ok 12) := by decide

/-- T40-14 (R105): LDH A,(0x00). -/
theorem test_T40_14 :
    look (fun t => (t.a, t.flags.toByte, t.pc, t.result))
        (run [0xF0#8, 0x00#8] { base with mem := [(0xFF00, 0xCF#8)] }) =
      some (0xCF#8, 0x00#8, 0x0102#16, .ok 12) := by decide

/-- T40-15 (R106): LD (C),A with C=0xFF writes IE_ADDR. -/
theorem test_T40_15 :
    look (fun t => (t.flags.toByte, t.pc, t.mem.read 0xFFFF#16, t.result))
        (run [0xE2#8] { base with c := 0xFF#8, a := 0x1F#8 }) =
      some (0x00#8, 0x0101#16, 0x1F#8, .ok 8) := by decide

/-- T40-16 (R107): LD A,(C). -/
theorem test_T40_16 :
    look (fun t => (t.a, t.flags.toByte, t.pc, t.result))
        (run [0xF2#8] { base with c := 0x44#8, mem := [(0xFF44, 0x90#8)] }) =
      some (0x90#8, 0x00#8, 0x0101#16, .ok 8) := by decide

/-- T40-17 (R108): LD (0x8000),A. -/
theorem test_T40_17 :
    look (fun t => (t.flags.toByte, t.pc, t.mem.read 0x8000#16, t.result))
        (run [0xEA#8, 0x00#8, 0x80#8] { base with a := 0x01#8 }) =
      some (0x00#8, 0x0103#16, 0x01#8, .ok 16) := by decide

/-- T40-18 (R109): LD A,(0xFFFF). -/
theorem test_T40_18 :
    look (fun t => (t.a, t.flags.toByte, t.pc, t.result))
        (run [0xFA#8, 0xFF#8, 0xFF#8] { base with mem := [(0xFFFF, 0x1D#8)] }) =
      some (0x1D#8, 0x00#8, 0x0103#16, .ok 16) := by decide

/-- T40-19 (R110): LD DE,0xBEEF. -/
theorem test_T40_19 :
    look (fun t => (t.flags.toByte, t.d, t.e, t.pc, t.result))
        (run [0x11#8, 0xEF#8, 0xBE#8] base) =
      some (0x00#8, 0xBE#8, 0xEF#8, 0x0103#16, .ok 12) := by decide

/-- T40-21 (R111): LD (0xFFFF),SP wraps high byte to 0x0000. -/
theorem test_T40_21 :
    look (fun t => (t.flags.toByte, t.pc, t.mem.read 0x0000#16, t.mem.read 0xFFFF#16, t.result))
        (run [0x08#8, 0xFF#8, 0xFF#8] { base with pc := 0x0200#16, sp := 0x1234#16 }) =
      some (0x00#8, 0x0203#16, 0x12#8, 0x34#8, .ok 20) := by decide

/-- T40-22 (R112): LD SP,HL. -/
theorem test_T40_22 :
    look (fun t => (t.flags.toByte, t.sp, t.pc, t.result))
        (run [0xF9#8] { base with h := 0x00#8, l := 0x01#8 }) =
      some (0x00#8, 0x0001#16, 0x0101#16, .ok 8) := by decide

/-- T40-23 (R113): PUSH AF. -/
theorem test_T40_23 :
    look (fun t => (t.flags.toByte, t.sp, t.pc, t.mem.read 0xCFFE#16, t.mem.read 0xCFFF#16,
      t.result))
        (run [0xF5#8] { base with a := 0x9A#8, flags := Flags.ofByte 0xB0#8, sp := 0xD000#16 }) =
      some (0xB0#8, 0xCFFE#16, 0x0101#16, 0xB0#8, 0x9A#8, .ok 16) := by decide

/-- T40-24 (R113): PUSH DE at SP=0x0000 wraps. -/
theorem test_T40_24 :
    look (fun t => (t.flags.toByte, t.sp, t.pc, t.mem.read 0xFFFE#16, t.mem.read 0xFFFF#16,
      t.result))
        (run [0xD5#8] { base with d := 0x13#8, e := 0x57#8, sp := 0x0000#16 }) =
      some (0x00#8, 0xFFFE#16, 0x0101#16, 0x57#8, 0x13#8, .ok 16) := by decide

/-- T40-26 (R114): POP AF drops low nibble. -/
theorem test_T40_26 :
    look (fun t => (t.flags.toByte, t.sp, t.pc, t.result))
        (run [0xF1#8] { base with sp := 0xC000#16, mem := [(0xC000, 0xFF#8)] }) =
      some (0xF0#8, 0xC002#16, 0x0101#16, .ok 12) := by decide

/-- T40-27 (R114): POP BC at SP=0xFFFF wraps. -/
theorem test_T40_27 :
    look (fun t => (t.flags.toByte, t.b, t.c, t.sp, t.pc, t.result))
        (run [0xC1#8] { base with
          pc := 0x0200#16, sp := 0xFFFF#16, mem := [(0x0000, 0xAB#8), (0xFFFF, 0xCD#8)] }) =
      some (0x00#8, 0xAB#8, 0xCD#8, 0x0001#16, 0x0201#16, .ok 12) := by decide

/-- T41-01 (R117): ADD A,B. -/
theorem test_T41_01 :
    look (fun t => (t.a, t.flags.toByte, t.pc, t.result))
        (run [0x80#8] { base with a := 0x3A#8, b := 0xC6#8, flags := Flags.ofByte 0x00#8 }) =
      some (0x00#8, 0xB0#8, 0x0101#16, .ok 4) := by decide

/-- T41-08 (R117): ADD A,(HL). -/
theorem test_T41_08 :
    look (fun t => (t.a, t.flags.toByte, t.pc, t.result))
        (run [0x86#8] { base with
          a := 0x3C#8, h := 0xC0#8, l := 0x00#8, mem := [(0xC000, 0x12#8)] }) =
      some (0x4E#8, 0x00#8, 0x0101#16, .ok 8) := by decide

/-- T41-09 (R117): ADD A,0xFF. -/
theorem test_T41_09 :
    look (fun t => (t.a, t.flags.toByte, t.pc, t.result))
        (run [0xC6#8, 0xFF#8] { base with a := 0x01#8 }) =
      some (0x00#8, 0xB0#8, 0x0102#16, .ok 8) := by decide

/-- T41-10 (R118): ADC A,C with carry in. -/
theorem test_T41_10 :
    look (fun t => (t.a, t.flags.toByte, t.pc, t.result))
        (run [0x89#8] { base with a := 0x0E#8, c := 0x01#8, flags := Flags.ofByte 0x10#8 }) =
      some (0x10#8, 0x20#8, 0x0101#16, .ok 4) := by decide

/-- T41-12 (R118): ADC A,A with carry in. -/
theorem test_T41_12 :
    look (fun t => (t.a, t.flags.toByte, t.pc, t.result))
        (run [0x8F#8] { base with a := 0x80#8, flags := Flags.ofByte 0x10#8 }) =
      some (0x01#8, 0x10#8, 0x0101#16, .ok 4) := by decide

/-- T41-13 (R119): SUB B borrow. -/
theorem test_T41_13 :
    look (fun t => (t.a, t.flags.toByte, t.pc, t.result))
        (run [0x90#8] { base with a := 0x00#8, b := 0x01#8 }) =
      some (0xFF#8, 0x70#8, 0x0101#16, .ok 4) := by decide

/-- T41-14 (R119): SUB 0x0F half-borrow. -/
theorem test_T41_14 :
    look (fun t => (t.a, t.flags.toByte, t.pc, t.result))
        (run [0xD6#8, 0x0F#8] { base with a := 0x10#8 }) =
      some (0x01#8, 0x60#8, 0x0102#16, .ok 8) := by decide

/-- T41-16 (R120): SBC A,B with carry in. -/
theorem test_T41_16 :
    look (fun t => (t.a, t.flags.toByte, t.pc, t.result))
        (run [0x98#8] { base with a := 0x10#8, b := 0x0F#8, flags := Flags.ofByte 0x10#8 }) =
      some (0x00#8, 0xE0#8, 0x0101#16, .ok 4) := by decide

/-- T41-17 (R120): SBC A,0x00 with carry in, A=0. -/
theorem test_T41_17 :
    look (fun t => (t.a, t.flags.toByte, t.pc, t.result))
        (run [0xDE#8, 0x00#8] { base with a := 0x00#8, flags := Flags.ofByte 0x10#8 }) =
      some (0xFF#8, 0x70#8, 0x0102#16, .ok 8) := by decide

/-- T41-19 (R121): CP 0x40 equal. -/
theorem test_T41_19 :
    look (fun t => (t.flags.toByte, t.pc, t.result))
        (run [0xFE#8, 0x40#8] { base with a := 0x40#8 }) =
      some (0xC0#8, 0x0102#16, .ok 8) := by decide

/-- T41-20 (R121): CP (HL) greater. -/
theorem test_T41_20 :
    look (fun t => (t.flags.toByte, t.pc, t.result))
        (run [0xBE#8] { base with
          a := 0x10#8, h := 0xC0#8, l := 0x00#8, mem := [(0xC000, 0x20#8)] }) =
      some (0x50#8, 0x0101#16, .ok 8) := by decide

/-- T41-21 (R122): AND 0x00. -/
theorem test_T41_21 :
    look (fun t => (t.a, t.flags.toByte, t.pc, t.result))
        (run [0xE6#8, 0x00#8] { base with a := 0xFF#8, flags := Flags.ofByte 0x10#8 }) =
      some (0x00#8, 0xA0#8, 0x0102#16, .ok 8) := by decide

/-- T41-22 (R122): AND B. -/
theorem test_T41_22 :
    look (fun t => (t.a, t.flags.toByte, t.pc, t.result))
        (run [0xA0#8] { base with a := 0xF0#8, b := 0x3C#8 }) =
      some (0x30#8, 0x20#8, 0x0101#16, .ok 4) := by decide

/-- T41-23 (R123): XOR A. -/
theorem test_T41_23 :
    look (fun t => (t.a, t.flags.toByte, t.pc, t.result))
        (run [0xAF#8] { base with a := 0x5A#8, flags := Flags.ofByte 0x70#8 }) =
      some (0x00#8, 0x80#8, 0x0101#16, .ok 4) := by decide

/-- T41-24 (R123): XOR (HL). -/
theorem test_T41_24 :
    look (fun t => (t.a, t.flags.toByte, t.pc, t.result))
        (run [0xAE#8] { base with
          a := 0x0F#8, h := 0xC0#8, l := 0x00#8, mem := [(0xC000, 0xFF#8)] }) =
      some (0xF0#8, 0x00#8, 0x0101#16, .ok 8) := by decide

/-- T41-25 (R124): OR C. -/
theorem test_T41_25 :
    look (fun t => (t.flags.toByte, t.pc, t.result))
        (run [0xB1#8] { base with a := 0x00#8, c := 0x00#8, flags := Flags.ofByte 0x70#8 }) =
      some (0x80#8, 0x0101#16, .ok 4) := by decide

/-- T41-26 (R124): OR 0x81. -/
theorem test_T41_26 :
    look (fun t => (t.a, t.flags.toByte, t.pc, t.result))
        (run [0xF6#8, 0x81#8] { base with a := 0x10#8 }) =
      some (0x91#8, 0x00#8, 0x0102#16, .ok 8) := by decide

/-- T41-27 (R125): INC B 0x0F. -/
theorem test_T41_27 :
    look (fun t => (t.flags.toByte, t.b, t.pc, t.result))
        (run [0x04#8] { base with b := 0x0F#8, flags := Flags.ofByte 0x10#8 }) =
      some (0x30#8, 0x10#8, 0x0101#16, .ok 4) := by decide

/-- T41-29 (R126): INC (HL) 0xFF. -/
theorem test_T41_29 :
    look (fun t => (t.flags.toByte, t.pc, t.mem.read 0xC000#16, t.result))
        (run [0x34#8] { base with
          h := 0xC0#8, l := 0x00#8, flags := Flags.ofByte 0x50#8, mem := [(0xC000, 0xFF#8)] }) =
      some (0xB0#8, 0x0101#16, 0x00#8, .ok 12) := by decide

/-- T41-31 (R127): DEC A 0x00. -/
theorem test_T41_31 :
    look (fun t => (t.a, t.flags.toByte, t.pc, t.result))
        (run [0x3D#8] { base with a := 0x00#8, flags := Flags.ofByte 0x10#8 }) =
      some (0xFF#8, 0x70#8, 0x0101#16, .ok 4) := by decide

/-- T41-32 (R128): DEC (HL) 0x01. -/
theorem test_T41_32 :
    look (fun t => (t.flags.toByte, t.pc, t.mem.read 0xC000#16, t.result))
        (run [0x35#8] { base with h := 0xC0#8, l := 0x00#8, mem := [(0xC000, 0x01#8)] }) =
      some (0xC0#8, 0x0101#16, 0x00#8, .ok 12) := by decide

/-- T41-35 (R129): DAA. -/
theorem test_T41_35 :
    look (fun t => (t.a, t.flags.toByte, t.pc, t.result))
        (run [0x27#8] { base with a := 0x9A#8, flags := Flags.ofByte 0x00#8 }) =
      some (0x00#8, 0x90#8, 0x0101#16, .ok 4) := by decide

/-- T41-37 (R129): DAA. -/
theorem test_T41_37 :
    look (fun t => (t.a, t.flags.toByte, t.pc, t.result))
        (run [0x27#8] { base with a := 0x00#8, flags := Flags.ofByte 0x30#8 }) =
      some (0x66#8, 0x10#8, 0x0101#16, .ok 4) := by decide

/-- T41-42 (R129): DAA. -/
theorem test_T41_42 :
    look (fun t => (t.a, t.flags.toByte, t.pc, t.result))
        (run [0x27#8] { base with a := 0xA0#8, flags := Flags.ofByte 0x50#8 }) =
      some (0x40#8, 0x50#8, 0x0101#16, .ok 4) := by decide

/-- T41-44 (R130): CPL. -/
theorem test_T41_44 :
    look (fun t => (t.a, t.flags.toByte, t.pc, t.result))
        (run [0x2F#8] { base with a := 0x00#8, flags := Flags.ofByte 0x90#8 }) =
      some (0xFF#8, 0xF0#8, 0x0101#16, .ok 4) := by decide

/-- T41-45 (R131): SCF. -/
theorem test_T41_45 :
    look (fun t => (t.flags.toByte, t.pc, t.result))
        (run [0x37#8] { base with flags := Flags.ofByte 0x00#8 }) =
      some (0x10#8, 0x0101#16, .ok 4) := by decide

/-- T41-46 (R132): CCF with C=1. -/
theorem test_T41_46 :
    look (fun t => (t.flags.toByte, t.pc, t.result))
        (run [0x3F#8] { base with flags := Flags.ofByte 0xF0#8 }) =
      some (0x80#8, 0x0101#16, .ok 4) := by decide

/-- T42-01 (R133): ADD HL,DE carry out of 15. -/
theorem test_T42_01 :
    look (fun t => (t.flags.toByte, t.h, t.l, t.pc, t.result))
        (run [0x19#8] { base with
          h := 0xFF#8, l := 0xFF#8, d := 0x00#8, e := 0x01#8, flags := Flags.ofByte 0x40#8 }) =
      some (0x30#8, 0x00#8, 0x00#8, 0x0101#16, .ok 8) := by decide

/-- T42-04 (R133): ADD HL,HL no carry. -/
theorem test_T42_04 :
    look (fun t => (t.flags.toByte, t.h, t.pc, t.result))
        (run [0x29#8] { base with h := 0x04#8, l := 0x00#8, flags := Flags.ofByte 0x00#8 }) =
      some (0x00#8, 0x08#8, 0x0101#16, .ok 8) := by decide

/-- T42-05 (R134): INC SP wraps. -/
theorem test_T42_05 :
    look (fun t => (t.flags.toByte, t.sp, t.pc, t.result))
        (run [0x33#8] { base with sp := 0xFFFF#16, flags := Flags.ofByte 0x00#8 }) =
      some (0x00#8, 0x0000#16, 0x0101#16, .ok 8) := by decide

/-- T42-07 (R135): DEC DE. -/
theorem test_T42_07 :
    look (fun t => (t.flags.toByte, t.d, t.e, t.pc, t.result))
        (run [0x1B#8] { base with d := 0x01#8, e := 0x00#8 }) =
      some (0x00#8, 0x00#8, 0xFF#8, 0x0101#16, .ok 8) := by decide

/-- T42-09 (R136): ADD SP,+1 low nibble carry. -/
theorem test_T42_09 :
    look (fun t => (t.flags.toByte, t.sp, t.pc, t.result))
        (run [0xE8#8, 0x01#8] { base with sp := 0xFFFF#16, flags := Flags.ofByte 0xC0#8 }) =
      some (0x30#8, 0x0000#16, 0x0102#16, .ok 16) := by decide

/-- T42-14 (R137): LD HL,SP-2. -/
theorem test_T42_14 :
    look (fun t => (t.flags.toByte, t.h, t.l, t.pc, t.result))
        (run [0xF8#8, 0xFE#8] { base with sp := 0x0001#16 }) =
      some (0x00#8, 0xFF#8, 0xFF#8, 0x0102#16, .ok 12) := by decide

/-- T43-01 (R138): RLCA 0x80. -/
theorem test_T43_01 :
    look (fun t => (t.a, t.flags.toByte, t.pc, t.result))
        (run [0x07#8] { base with a := 0x80#8 }) =
      some (0x01#8, 0x10#8, 0x0101#16, .ok 4) := by decide

/-- T43-02 (R139): RLA 0x00 carry in. -/
theorem test_T43_02 :
    look (fun t => (t.a, t.flags.toByte, t.pc, t.result))
        (run [0x17#8] { base with a := 0x00#8, flags := Flags.ofByte 0x10#8 }) =
      some (0x01#8, 0x00#8, 0x0101#16, .ok 4) := by decide

/-- T43-03 (R140): RRCA 0x01. -/
theorem test_T43_03 :
    look (fun t => (t.a, t.flags.toByte, t.pc, t.result))
        (run [0x0F#8] { base with a := 0x01#8, flags := Flags.ofByte 0x80#8 }) =
      some (0x80#8, 0x10#8, 0x0101#16, .ok 4) := by decide

/-- T43-04 (R141): RRA 0x00 carry in. -/
theorem test_T43_04 :
    look (fun t => (t.a, t.flags.toByte, t.pc, t.result))
        (run [0x1F#8] { base with a := 0x00#8, flags := Flags.ofByte 0x10#8 }) =
      some (0x80#8, 0x00#8, 0x0101#16, .ok 4) := by decide

/-- T43-05 (R143): RLC (HL) 0x80. -/
theorem test_T43_05 :
    look (fun t => (t.flags.toByte, t.pc, t.mem.read 0xC000#16, t.result))
        (run [0xCB#8, 0x06#8] { base with h := 0xC0#8, l := 0x00#8, mem := [(0xC000, 0x80#8)] }) =
      some (0x10#8, 0x0102#16, 0x01#8, .ok 16) := by decide

/-- T43-06 (R143): RLC A 0x00. -/
theorem test_T43_06 :
    look (fun t => (t.flags.toByte, t.pc, t.result))
        (run [0xCB#8, 0x07#8] { base with a := 0x00#8, flags := Flags.ofByte 0x10#8 }) =
      some (0x80#8, 0x0102#16, .ok 8) := by decide

/-- T43-07 (R144): RRC D 0x02. -/
theorem test_T43_07 :
    look (fun t => (t.flags.toByte, t.d, t.pc, t.result))
        (run [0xCB#8, 0x0A#8] { base with d := 0x02#8, flags := Flags.ofByte 0x10#8 }) =
      some (0x00#8, 0x01#8, 0x0102#16, .ok 8) := by decide

/-- T43-08 (R145): RL B 0x80 carry in. -/
theorem test_T43_08 :
    look (fun t => (t.flags.toByte, t.b, t.pc, t.result))
        (run [0xCB#8, 0x10#8] { base with b := 0x80#8, flags := Flags.ofByte 0x10#8 }) =
      some (0x10#8, 0x01#8, 0x0102#16, .ok 8) := by decide

/-- T43-09 (R146): RR E 0x00 carry in. -/
theorem test_T43_09 :
    look (fun t => (t.flags.toByte, t.e, t.pc, t.result))
        (run [0xCB#8, 0x1B#8] { base with e := 0x00#8, flags := Flags.ofByte 0x10#8 }) =
      some (0x00#8, 0x80#8, 0x0102#16, .ok 8) := by decide

/-- T43-11 (R147): SLA C 0x41. -/
theorem test_T43_11 :
    look (fun t => (t.flags.toByte, t.c, t.pc, t.result))
        (run [0xCB#8, 0x21#8] { base with c := 0x41#8, flags := Flags.ofByte 0x10#8 }) =
      some (0x00#8, 0x82#8, 0x0102#16, .ok 8) := by decide

/-- T43-12 (R148): SRA H 0x81. -/
theorem test_T43_12 :
    look (fun t => (t.flags.toByte, t.h, t.pc, t.result))
        (run [0xCB#8, 0x2C#8] { base with h := 0x81#8 }) =
      some (0x10#8, 0xC0#8, 0x0102#16, .ok 8) := by decide

/-- T43-14 (R149): SWAP (HL). -/
theorem test_T43_14 :
    look (fun t => (t.flags.toByte, t.pc, t.mem.read 0xC000#16, t.result))
        (run [0xCB#8, 0x36#8] { base with h := 0xC0#8, l := 0x00#8, mem := [(0xC000, 0xA5#8)] }) =
      some (0x00#8, 0x0102#16, 0x5A#8, .ok 16) := by decide

/-- T43-16 (R150): SRL A 0x80. -/
theorem test_T43_16 :
    look (fun t => (t.a, t.flags.toByte, t.pc, t.result))
        (run [0xCB#8, 0x3F#8] { base with a := 0x80#8, flags := Flags.ofByte 0x10#8 }) =
      some (0x40#8, 0x00#8, 0x0102#16, .ok 8) := by decide

/-- T44-02 (R151): BIT 0,B bit clear, C kept. -/
theorem test_T44_02 :
    look (fun t => (t.flags.toByte, t.pc, t.result))
        (run [0xCB#8, 0x40#8] { base with b := 0xFE#8, flags := Flags.ofByte 0x10#8 }) =
      some (0xB0#8, 0x0102#16, .ok 8) := by decide

/-- T44-03 (R151): BIT 7,(HL). -/
theorem test_T44_03 :
    look (fun t => (t.flags.toByte, t.pc, t.result))
        (run [0xCB#8, 0x7E#8] { base with h := 0xC0#8, l := 0x00#8, mem := [(0xC000, 0x7F#8)] }) =
      some (0xA0#8, 0x0102#16, .ok 12) := by decide

/-- T44-05 (R152): RES 7,A. -/
theorem test_T44_05 :
    look (fun t => (t.a, t.flags.toByte, t.pc, t.result))
        (run [0xCB#8, 0xBF#8] { base with a := 0xFF#8, flags := Flags.ofByte 0xF0#8 }) =
      some (0x7F#8, 0xF0#8, 0x0102#16, .ok 8) := by decide

/-- T44-06 (R152): RES 3,(HL) already 0. -/
theorem test_T44_06 :
    look (fun t => (t.flags.toByte, t.pc, t.mem.read 0xC000#16, t.result))
        (run [0xCB#8, 0x9E#8] { base with h := 0xC0#8, l := 0x00#8, mem := [(0xC000, 0xF7#8)] }) =
      some (0x00#8, 0x0102#16, 0xF7#8, .ok 16) := by decide

/-- T44-08 (R153): SET 4,(HL). -/
theorem test_T44_08 :
    look (fun t => (t.flags.toByte, t.pc, t.mem.read 0xC000#16, t.result))
        (run [0xCB#8, 0xE6#8] { base with
          h := 0xC0#8, l := 0x00#8, flags := Flags.ofByte 0xA0#8 }) =
      some (0xA0#8, 0x0102#16, 0x10#8, .ok 16) := by decide

/-- T45-01 (R157): JP 0x0000. -/
theorem test_T45_01 :
    look (fun t => (t.flags.toByte, t.pc, t.result))
        (run [0xC3#8, 0x00#8, 0x00#8] { base with pc := 0x4000#16 }) =
      some (0x00#8, 0x0000#16, .ok 16) := by decide

/-- T45-02 (R158): JP NC,0x1234 taken. -/
theorem test_T45_02 :
    look (fun t => (t.flags.toByte, t.pc, t.result))
        (run [0xD2#8, 0x34#8, 0x12#8] { base with flags := Flags.ofByte 0x00#8 }) =
      some (0x00#8, 0x1234#16, .ok 16) := by decide

/-- T45-03 (R158): JP C,0x1234 not taken. -/
theorem test_T45_03 :
    look (fun t => (t.flags.toByte, t.pc, t.result))
        (run [0xDA#8, 0x34#8, 0x12#8] { base with flags := Flags.ofByte 0x00#8 }) =
      some (0x00#8, 0x0103#16, .ok 12) := by decide

/-- T45-05 (R159): JP HL. -/
theorem test_T45_05 :
    look (fun t => (t.flags.toByte, t.pc, t.result))
        (run [0xE9#8] { base with h := 0xFF#8, l := 0xFF#8 }) =
      some (0x00#8, 0xFFFF#16, .ok 4) := by decide

/-- T45-06 (R160): JR -128. -/
theorem test_T45_06 :
    look (fun t => (t.flags.toByte, t.pc, t.result))
        (run [0x18#8, 0x80#8] { base with pc := 0x0000#16 }) =
      some (0x00#8, 0xFF82#16, .ok 12) := by decide

/-- T45-09 (R161): JR Z,+4 not taken. -/
theorem test_T45_09 :
    look (fun t => (t.flags.toByte, t.pc, t.result))
        (run [0x28#8, 0x04#8] { base with flags := Flags.ofByte 0x00#8 }) =
      some (0x00#8, 0x0102#16, .ok 8) := by decide

/-- T45-10 (R161): JR C,-3 taken. -/
theorem test_T45_10 :
    look (fun t => (t.flags.toByte, t.pc, t.result))
        (run [0x38#8, 0xFD#8] { base with flags := Flags.ofByte 0x10#8 }) =
      some (0x10#8, 0x00FF#16, .ok 12) := by decide

/-- T45-12 (R162): CALL 0x0000 from 0xFFFD, return wraps. -/
theorem test_T45_12 :
    look (fun t => (t.flags.toByte, t.sp, t.pc, t.mem.read 0xCFFE#16, t.mem.read 0xCFFF#16,
      t.result))
        (run [0xCD#8, 0x00#8, 0x00#8] { base with pc := 0xFFFD#16, sp := 0xD000#16 }) =
      some (0x00#8, 0xCFFE#16, 0x0000#16, 0x00#8, 0x00#8, .ok 24) := by decide

/-- T45-13 (R163): CALL Z,0x2000 taken. -/
theorem test_T45_13 :
    look (fun t => (t.flags.toByte, t.sp, t.pc, t.mem.read 0xFFFC#16, t.mem.read 0xFFFD#16,
      t.result))
        (run [0xCC#8, 0x00#8, 0x20#8] { base with
          pc := 0x0300#16, flags := Flags.ofByte 0x80#8, sp := 0xFFFE#16 }) =
      some (0x80#8, 0xFFFC#16, 0x2000#16, 0x03#8, 0x03#8, .ok 24) := by decide

/-- T45-14 (R163): CALL C not taken. -/
theorem test_T45_14 :
    look (fun t => (t.flags.toByte, t.pc, t.result))
        (run [0xDC#8, 0x00#8, 0x20#8] { base with
          pc := 0x0300#16, flags := Flags.ofByte 0x00#8, sp := 0xFFFE#16 }) =
      some (0x00#8, 0x0303#16, .ok 12) := by decide

/-- T45-15 (R164): RET from SP=0xFFFF wraps. -/
theorem test_T45_15 :
    look (fun t => (t.flags.toByte, t.sp, t.pc, t.result))
        (run [0xC9#8] { base with pc := 0x0300#16, sp := 0xFFFF#16, mem := [(0x0000, 0x02#8)] }) =
      some (0x00#8, 0x0001#16, 0x0200#16, .ok 16) := by decide

/-- T45-16 (R165): RET C taken. -/
theorem test_T45_16 :
    look (fun t => (t.flags.toByte, t.sp, t.pc, t.result))
        (run [0xD8#8] { base with
          flags := Flags.ofByte 0x10#8, sp := 0xC000#16,
          mem := [(0xC000, 0x34#8), (0xC001, 0x12#8)] }) =
      some (0x10#8, 0xC002#16, 0x1234#16, .ok 20) := by decide

/-- T45-17 (R165): RET NC not taken. -/
theorem test_T45_17 :
    look (fun t => (t.flags.toByte, t.pc, t.result))
        (run [0xD0#8] { base with flags := Flags.ofByte 0x10#8, sp := 0xC000#16 }) =
      some (0x10#8, 0x0101#16, .ok 8) := by decide

/-- T45-19 (R166): RETI with IME=1 already. -/
theorem test_T45_19 :
    look (fun t => (t.flags.toByte, t.sp, t.pc, t.result))
        (run [0xD9#8] { base with ime := true, sp := 0xC000#16, mem := [(0xC001, 0x40#8)] }) =
      some (0x00#8, 0xC002#16, 0x4000#16, .ok 16) := by decide

/-- T45-20 (R167): RST 0x38 (0xFF). -/
theorem test_T45_20 :
    look (fun t => (t.flags.toByte, t.sp, t.pc, t.mem.read 0xFFFC#16, t.mem.read 0xFFFD#16,
      t.result))
        (run [0xFF#8] { base with pc := 0x1234#16, sp := 0xFFFE#16 }) =
      some (0x00#8, 0xFFFC#16, 0x0038#16, 0x35#8, 0x12#8, .ok 16) := by decide

/-- T46-01 (R168): NOP at 0xFFFF wraps PC. -/
theorem test_T46_01 :
    look (fun t => (t.flags.toByte, t.pc, t.result))
        (run [0x00#8] { base with pc := 0xFFFF#16 }) =
      some (0x00#8, 0x0000#16, .ok 4) := by decide

/-- T46-03 (R170): STOP HaltLike. -/
theorem test_T46_03 :
    look (fun t => (t.flags.toByte, t.pc, t.halted, t.result))
        (run [0x10#8, 0xAA#8] base) =
      some (0x00#8, 0x0102#16, true, .ok 4) := by decide

/-- T46-05 (R171): DI. -/
theorem test_T46_05 :
    look (fun t => (t.flags.toByte, t.pc, t.ime, t.result))
        (run [0xF3#8] { base with ime := true, flags := Flags.ofByte 0x50#8 }) =
      some (0x50#8, 0x0101#16, false, .ok 4) := by decide

/-- T46-06 (R172): EI no pending. -/
theorem test_T46_06 :
    look (fun t => (t.flags.toByte, t.pc, t.ime, t.result))
        (run [0xFB#8] base) =
      some (0x00#8, 0x0101#16, true, .ok 4) := by decide

/-- T60-02 (R184): IF bits 7..5 written back unchanged. -/
theorem test_T60_02 :
    look (fun t => (t.sp, t.pc, t.ime, t.mem.read 0xCFFE#16, t.mem.read 0xFF0F#16, t.result))
        (run [0x00#8] { base with
          pc := 0x0200#16, ime := true, sp := 0xD000#16,
          mem := [(0xFF0F, 0xF8#8), (0xFFFF, 0x1F#8)] }) =
      some (0xCFFE#16, 0x0058#16, false, 0x01#8, 0xF0#8, .ok 24) := by decide

/-- T60-04 (R183): IE bits 7..5 ignored. -/
theorem test_T60_04 :
    look (fun t => (t.pc, t.result))
        (run [0x00#8] { base with
          pc := 0x0200#16, ime := true, sp := 0xD000#16,
          mem := [(0xFF0F, 0xFF#8), (0xFFFF, 0xE0#8)] }) =
      some (0x0201#16, .ok 4) := by decide

/-- T60-09 (R184): CALL then dispatch in one step. -/
theorem test_T60_09 :
    look (fun t => (t.sp, t.pc, t.ime, t.mem.read 0xCFFC#16, t.mem.read 0xFF0F#16, t.result))
        (run [0xCD#8, 0x00#8, 0x30#8] { base with
          pc := 0x0200#16, ime := true, sp := 0xD000#16,
          mem := [(0xFF0F, 0x04#8), (0xFFFF, 0x04#8)] }) =
      some (0xCFFC#16, 0x0050#16, false, 0x00#8, 0x00#8, .ok 44) := by decide

/-- T60-10 (R184): store to IE seen at same boundary. -/
theorem test_T60_10 :
    look (fun t => (t.sp, t.pc, t.ime, t.mem.read 0xCFFE#16, t.mem.read 0xFF0F#16, t.result))
        (run [0xE0#8, 0xFF#8] { base with
          pc := 0x0200#16, ime := true, a := 0x02#8, sp := 0xD000#16, mem := [(0xFF0F, 0x02#8)] }) =
      some (0xCFFE#16, 0x0048#16, false, 0x02#8, 0x00#8, .ok 32) := by decide

/-! ### The step driver, interrupts, HALT, STOP, reset -/

/-- The state of T61 and T62: the byte of IE, the byte of IF, SP at 0xD000. -/
def withIEIF (ie iflag : Byte) (s : State) : State :=
  { s with mem := (s.mem.write 0xFFFF#16 ie).write 0xFF0F#16 iflag, sp := 0xD000#16 }

/-- E5, step 1: VBlank before Timer, and only it. -/
theorem test_E5_priority :
    look (fun t => (t.pc, t.ime, t.mem.read 0xFF0F#16, t.result))
        (run [0x00#8] (withIEIF 0x05#8 0x05#8 { base with ime := true })) =
      some (0x0040#16, false, 0x04#8, .ok 24) := by decide

/-- T61-01: every bus transaction of a CALL and of the dispatch at its boundary, in order. -/
theorem test_T61_01_trace :
    look (fun t => t.trace)
        (run [0xCD#8, 0x00#8, 0x30#8] (withIEIF 0x04#8 0x04#8 { base with ime := true })) =
      some [.read 0x0100#16 0xCD#8, .read 0x0101#16 0x00#8, .read 0x0102#16 0x30#8,
        .write 0xCFFF#16 0x01#8, .write 0xCFFE#16 0x03#8, .read 0xFFFF#16 0x04#8,
        .read 0xFF0F#16 0x04#8, .write 0xFF0F#16 0x00#8, .write 0xCFFD#16 0x30#8,
        .write 0xCFFC#16 0x00#8] := by decide

/-- T61-02: a dispatch from a halted step. -/
theorem test_T61_02_halted_dispatch :
    look (fun t => (t.pc, t.sp, t.halted, t.ime, t.result))
        (step (withIEIF 0x10#8 0x10#8 { base with ime := true, halted := true })) =
      some (0x0060#16, 0xCFFE#16, false, false, .ok 24) := by decide

/-- T61-03: the push of a dispatch may write IE; the dispatch is not cancelled. -/
theorem test_T61_03_push_over_IE :
    look (fun t => (t.pc, t.sp, t.mem.read 0x0000#16, t.mem.read 0xFFFF#16))
        (run [0x00#8] { withIEIF 0x01#8 0x01#8 base with
          pc := 0x1234#16, ime := true, sp := 0x0001#16 }) =
      some (0x0040#16, 0xFFFF#16, 0x12#8, 0x35#8) := by decide

/-- T60-07: with IME clear a halted step does nothing and touches no bus. -/
theorem test_T60_07_halted_tick :
    look (fun t => (t.pc, t.halted, t.trace, t.result))
        (step (withIEIF 0x08#8 0x08#8 { base with halted := true })) =
      some (0x0100#16, true, [], .ok 4) := by decide

/-- T61-04, step 2: a request wakes the core, the next instruction runs, then VBlank is dispatched. -/
theorem test_T61_04_request_wakes :
    look (fun t => (t.pc, t.halted, t.mem.read 0xCFFE#16, t.mem.read 0xFF0F#16, t.result))
        (step { withIEIF 0x01#8 0x00#8 base with
          pc := 0x0101#16, ime := true, halted := true, inputs := [[.irqRequest .vblank]] }) =
      some (0x0040#16, false, 0x02#8, 0x00#8, .ok 24) := by decide

/-- T61-05, step 2: a store of another agent to IF is no request; the halted tick dispatches. -/
theorem test_T61_05_store_is_no_request :
    look (fun t => (t.pc, t.halted, t.mem.read 0xCFFE#16, t.result))
        (step { withIEIF 0x01#8 0x00#8 base with
          pc := 0x0101#16, ime := true, halted := true, inputs := [[.busWrite 0xFF0F#16 0x01#8]] }) =
      some (0x0040#16, false, 0x01#8, .ok 24) := by decide

/-- T61-06, step 2: a request for a line that IE does not enable wakes the core too. -/
theorem test_T61_06_disabled_line_wakes :
    look (fun t => (t.a, t.pc, t.halted, t.mem.read 0xFF0F#16))
        (step { base with
          mem := [(0x0101, 0x3C#8)], pc := 0x0101#16, halted := true
          inputs := [[.irqRequest .serial]] }) =
      some (0x01#8, 0x0102#16, false, 0x08#8) := by decide

/-- T61-08, step 1: STOP under `HaltLike` reads both its bytes. -/
theorem test_T61_08_stop_trace :
    look (fun t => (t.trace, t.halted, t.pc)) (run [0x10#8, 0x00#8] base) =
      some ([.read 0x0100#16 0x10#8, .read 0x0101#16 0x00#8], true, 0x0102#16) := by decide

/-- T61-09, step 1: STOP under `STOP_MODE = Fault`. -/
theorem test_T61_09_stop_fault :
    look (fun t => (t.trace, t.pc, t.result))
        (run [0x10#8, 0x00#8] { base with cfg := { Config.standard with stopMode := .fault } }) =
      some ([.read 0x0100#16 0x10#8], 0x0100#16, .err (.undefinedOpcode 0x10#8 false)) := by decide

/-- T62-01: an undefined opcode, with an interrupt pending and enabled. -/
theorem test_T62_01_undefined :
    look (fun t => (t.trace, t.pc, t.ime, t.mem.read 0xFF0F#16, t.fault))
        (run [0xD3#8] (withIEIF 0x01#8 0x01#8 { base with ime := true })) =
      some ([.read 0x0100#16 0xD3#8], 0x0100#16, true, 0x01#8,
        some (.undefinedOpcode 0xD3#8 false)) := by decide

/-- T62-01, step 2: the fault is sticky and makes no bus access. -/
theorem test_T62_01_sticky :
    look (fun t => (t.trace, t.pc, t.result))
        (step { base with fault := some (.undefinedOpcode 0xD3#8 false) }) =
      some ([], 0x0100#16, .err (.undefinedOpcode 0xD3#8 false)) := by decide

/-- T63-01: `INT_DISPATCH_CYCLES = 0`. -/
theorem test_T63_01_dispatch_cycles :
    look (fun t => (t.pc, t.result))
        (run [0x00#8] (withIEIF 0x01#8 0x01#8
          { base with ime := true, cfg := { Config.standard with intDispatchCycles := 0 } })) =
      some (0x0040#16, .ok 4) := by decide

/-- T63-02: `IE_ADDR = 0xFF80`. -/
theorem test_T63_02_ie_addr :
    look (fun t => (t.pc, t.result))
        (run [0x00#8] { withIEIF 0x00#8 0x02#8 base with
          ime := true, cfg := { Config.standard with ieAddr := 0xFF80#16 }
          mem := [(0xFF0F, 0x02#8), (0xFF80, 0x02#8)] }) =
      some (0x0048#16, .ok 24) := by decide

/-- T70-01: the first step after a `Zero` reset, a NOP at 0x0000. -/
theorem test_T70_01_reset_zero :
    look (fun t => (t.pc, t.sp, t.ime, t.halted, t.result)) (step State.reset) =
      some (0x0001#16, 0x0000#16, true, false, .ok 4) := by decide

/-- T70-02: the first step after a `PostBoot` reset. -/
theorem test_T70_02_reset_post_boot :
    look (fun t => (t.af, t.bc, t.de, t.hl, t.sp, t.pc))
        (step (State.resetWith { Config.standard with resetProfile := .postBoot })) =
      some (0x01B0#16, 0x0013#16, 0x00D8#16, 0x014D#16, 0xFFFE#16, 0x0101#16) := by decide

/-- T70-03: a dispatch at the first boundary pushes over IE. -/
theorem test_T70_03_first_boundary :
    look (fun t => (t.pc, t.sp, t.mem.read 0xFFFF#16, t.mem.read 0xFFFE#16))
        (step { State.reset with mem := [(0xFF0F, 0x01#8), (0xFFFF, 0x01#8)] }) =
      some (0x0040#16, 0xFFFE#16, 0x00#8, 0x01#8) := by decide

/-- R50: the bus may answer a read as it chooses. -/
theorem test_R50_scripted_answers :
    look (fun t => (t.a, t.answers)) (step { base with answers := [0x3E#8, 0x42#8, 0x77#8] }) =
      some (0x42#8, [0x77#8]) := by decide

/-- R173: a reset between steps clears the fault; the step then fetches at the entry point. -/
theorem test_R173_reset_clears_fault :
    look (fun t => (t.fault, t.pc, t.result))
        (step { base with
          fault := some (.undefinedOpcode 0xD3#8 false), inputs := [[.reset]] }) =
      some (none, 0x0001#16, .ok 4) := by decide

/-- `withFetchWord` runs the word as the first instruction after reset. -/
theorem test_withFetchWord :
    look (fun t => (t.b, t.pc)) (step (State.reset.withFetchWord 16 0xCBC0)) =
      some (0x01#8, 0x0002#16) := by decide

/-! ### Witnesses: what meets the hypotheses of the statements -/

/-- A state with bytes in memory, IE and IF among them. -/
def sample : State :=
  { withIEIF 0x1F#8 0xE5#8 base with a := 0x99#8, flags := ⟨true, true, false, true⟩ }

theorem witness_DecodeOfEncodeGivesInstructionBack :
    (Instr.nop).wellFormed = true ∧ (Instr.ld_SP_d16 0xFFFF#16).wellFormed = true ∧
      (Instr.undefined_FD).wellFormed = true ∧ (Instr.set_7_A).wellFormed = true := by decide

theorem witness_DecodedBytesAreTheEncoding :
    decode [0x00#8] = .ok .nop [] ∧ decode [0xFA#8, 0xFF#8, 0xFF#8, 0x01#8] =
      .ok (.ld_A_ma16 0xFFFF#16) [0x01#8] := by decide

/-- Both clauses at each length. -/
theorem witness_LengthIsFunctionOfFirstByte :
    lengthOf 0xFF#8 ≤ ([] : List Byte).length + 1 ∧ lengthOf 0x10#8 ≤ [0x00#8].length + 1 ∧
      lengthOf 0xFA#8 ≤ [0x00#8, 0x00#8].length + 1 ∧
      ([] : List Byte).length + 1 < lengthOf 0xCB#8 ∧ [0x00#8].length + 1 < lengthOf 0x01#8 := by decide

theorem witness_UndefinedOpcodesAreExactlyEleven :
    decode [0xD3#8] = .ok .undefined_D3 [] ∧ Instr.undefined_D3.isUndefined = true ∧
      decode [0xFD#8] = .ok .undefined_FD [] ∧ decode [0xFF#8] = .ok .rst_38 [] ∧
      Instr.rst_38.isUndefined = false := by decide

theorem witness_PrefixRowRunsTheSelectedRow :
    decode (encode (.prefix_CB 0x00#8) ++ []) = .ok .rlc_B [] ∧
      decode (encode (.prefix_CB 0xFF#8) ++ [0x01#8]) = .ok .set_7_A [0x01#8] := by decide

theorem witness_CanonicalMemoriesAreEqualByReads :
    Memory.wf sample.mem ∧ sample.mem ≠ [] ∧ ∀ a, sample.mem.read a = sample.mem.read a :=
  ⟨by decide, by decide, fun _ => rfl⟩

/-- The premise of every statement of a store. -/
theorem witness_StoresByte_StoresTwo : sample.mem.wf ∧ sample.mem ≠ [] ∧ Memory.wf [] := by decide

theorem witness_PushThenPopRestores :
    sample.mem.wf ∧ sample.PlainRAM ∧ base.mem.wf ∧ base.sp = 0x0000#16 := by decide

/-- Both directions of DAA, each correction present and absent. -/
theorem witness_DecimalAdjust :
    base.flags.n = false ∧ sample.flags.n = true ∧ sample.flags.c = true ∧ sample.flags.h = false := by
  decide

theorem witness_DecimalAdditionIsDecimal :
    99 < 100 ∧ sample.a = bcd 99 ∧ 0 < 100 ∧ base.a = bcd 0 := by decide

/-- Every condition holds on some flags and fails on others. -/
theorem witness_Conditions (cc : Cond) : (∃ f, condHolds cc f) ∧ ∃ f, ¬condHolds cc f := by
  cases cc
  · exact ⟨⟨⟨false, false, false, false⟩, rfl⟩, ⟨⟨true, false, false, false⟩, nofun⟩⟩
  · exact ⟨⟨⟨true, false, false, false⟩, rfl⟩, ⟨⟨false, false, false, false⟩, nofun⟩⟩
  · exact ⟨⟨⟨false, false, false, false⟩, rfl⟩, ⟨⟨false, false, false, true⟩, nofun⟩⟩
  · exact ⟨⟨⟨false, false, false, true⟩, rfl⟩, ⟨⟨false, false, false, false⟩, nofun⟩⟩

/-- `base` in the other STOP mode, with STOP at PC. -/
def stopFaults : State :=
  { base.placeAtPC [0x10#8] with cfg := { Config.standard with stopMode := .fault } }

theorem witness_StopByItsMode :
    base.cfg.stopMode = .haltLike ∧ stopFaults.cfg.stopMode = .fault ∧ stopFaults.deliver.Running ∧
      stopFaults.deliver.busAnswer stopFaults.deliver.pc = 0x10#8 := by decide

theorem witness_UndefinedRowsRecordTheFault :
    Instr.undefined_D3.isUndefined = true ∧ Instr.undefined_FD.isUndefined = true := by decide

theorem witness_StepRunsDecodedInstruction :
    let s := base.placeAtPC [0xCD#8, 0x34#8, 0x12#8]
    s.deliver.Running ∧ decode (window s.deliver) = .ok (.call_a16 0x1234#16) [] ∧
      (∀ v, Instr.call_a16 0x1234#16 = .stop v → s.cfg.stopMode = .haltLike) ∧
      s.deliver.PlainRAM :=
  ⟨by decide, by decide, nofun, by decide⟩

theorem witness_StepRunsDecodedInstruction_stop :
    let s := base.placeAtPC [0x10#8, 0xAA#8]
    s.deliver.Running ∧ decode (window s.deliver) = .ok (.stop 0xAA#8) [0x00#8] ∧
      s.cfg.stopMode = .haltLike := by decide

theorem witness_HaltedStepTicksThenScans :
    let s := { sample with halted := true, ime := true }
    s.deliver.fault = none ∧ s.deliver.halted = true := by decide

theorem witness_UndefinedOpcodeStepFaults :
    ∀ op ∈ undefinedOpcodes,
      let s := sample.placeAtPC [op]
      s.deliver.Running ∧ s.deliver.busAnswer s.deliver.pc = op := by decide

theorem witness_FaultStaysUntilReset :
    let s := { sample with
      fault := some (.undefinedOpcode 0xFD#8 false)
      inputs := [[.irqRequest .timer], [], [.busWrite 0xFF0F#16 0x00#8]] }
    s.fault = some (.undefinedOpcode 0xFD#8 false) ∧
      (∀ acts ∈ s.inputs, EnvAction.reset ∉ acts) ∧
      s.deliver.fault = some (.undefinedOpcode 0xFD#8 false) := by
  decide

/-- With IME clear and a line pending; with IME set and none. -/
theorem witness_HaltedForEverWithoutRequest :
    (let s := { sample with halted := true, inputs := [[], []] }
     s.fault = none ∧ s.halted = true ∧ (∀ acts ∈ s.inputs, acts = []) ∧ s.ime = false) ∧
    (let s := { withIEIF 0xFF#8 0xE0#8 base with halted := true, ime := true }
     s.fault = none ∧ s.halted = true ∧ (∀ acts ∈ s.inputs, acts = []) ∧ s.PlainRAM ∧
       s.mem.read s.cfg.ieAddr &&& s.mem.read s.cfg.ifAddr &&& 0x1F#8 = 0#8) := by decide

/-- IME clear; IME set with no line, then with the lines of highest and of lowest priority. -/
theorem witness_BoundaryDispatchesLowestPendingLine :
    base.ime = false ∧
    (let s := { withIEIF 0xE0#8 0xFF#8 base with ime := true }
     s.ime = true ∧ ∀ line, pending s line = false) ∧
    (let s := { sample with ime := true }
     s.ime = true ∧ pending s .vblank = true ∧
       ∀ k, lineBit k < lineBit .vblank → pending s k = false) ∧
    (let s := { withIEIF 0x1F#8 0xF0#8 base with ime := true }
     s.ime = true ∧ pending s .joypad = true ∧
       ∀ k, lineBit k < lineBit .joypad → pending s k = false) := by
  refine ⟨by decide, ⟨rfl, ?_⟩, ⟨rfl, by decide, ?_⟩, ⟨rfl, by decide, ?_⟩⟩
  · intro line; cases line <;> decide
  · intro k; cases k <;> decide
  · intro k; cases k <;> decide

theorem witness_ReturnFromInterruptResumes : sample.mem.wf ∧ sample.PlainRAM := by decide

theorem witness_EnvironmentActions :
    ({ sample with inputs := [[.irqRequest .joypad]] } : State).inputs = [.irqRequest .joypad] :: [] ∧
    ({ sample with inputs := [[.busWrite 0xFF0F#16 0x00#8], []] } : State).inputs =
      [.busWrite 0xFF0F#16 0x00#8] :: [[]] ∧
    ({ sample with inputs := [[.reset]] } : State).inputs = [.reset] :: [] ∧
    sample.inputs = [] ∧ ({ sample with inputs := [[]] } : State).inputs = [] :: [] ∧
    ({ sample with inputs := [[.reset, .irqRequest .vblank]] } : State).inputs =
      (.reset :: [.irqRequest .vblank]) :: [] := by decide

/-- A step of 4 cycles and, T60-09, one of 44. -/
theorem witness_StepCyclesAreBounded :
    look State.result (step base) = some (.ok 4) ∧
      look State.result (run [0xCD#8, 0x00#8, 0x30#8] { sample with ime := true }) = some (.ok 44) := by
  decide

theorem witness_ResetProfiles :
    Config.standard.resetProfile = .zero ∧
      ({ Config.standard with resetProfile := .postBoot } : Config).resetProfile = .postBoot := by decide

/-- A faulted state with the invariant; every state has a next one (`EveryStepReturns…`). -/
theorem witness_InvariantKeptByStep :
    let s := { sample with
      fault := some (.undefinedOpcode 0xD3#8 false), result := .err (.undefinedOpcode 0xD3#8 false) }
    s.Inv ∧ look State.fault (step s) = some (some (.undefinedOpcode 0xD3#8 false)) := by
  refine ⟨⟨by decide, fun f => ?_, fun f _ => rfl, fun f hf => ?_⟩, by decide⟩
  · constructor <;> (intro h; cases h; rfl)
  · cases hf; exact ⟨rfl, .inl (by decide)⟩

theorem witness_OnlyNamedInstructionsWriteModes :
    look State.ime (exec .ei base) = some true ∧ look State.halted (exec .halt base) = some true ∧
      look State.ime (exec .nop sample) = some sample.ime := by decide

theorem witness_OnlyIndexedInstructionsWriteFlags :
    writesFlags .ld_A_B = false ∧ writesFlags .inc_BC = false ∧ writesFlags .res_0_B = false ∧
      (look State.flags (exec .inc_BC sample)).isSome = true := by decide

theorem witness_OnlyIndexedInstructionsWriteRegisters :
    Instr.cp_B.wellFormed = true ∧ writesReg .cp_B .A = false ∧ writesReg .bit_0_B .B = false ∧
      writesSP .jp_HL = false ∧ (look State.a (exec .cp_B sample)).isSome = true := by decide

theorem witness_OnlyIndexedInstructionsStore :
    storesMemory .bit_7_mHL = false ∧ storesMemory .halt = false ∧ storesMemory .pop_AF = false ∧
      (look State.mem (exec .pop_AF sample)).isSome = true := by decide

end Sys2Proof.Tests
end

section
/-! PROOFS. The byte functions of R17 and the high-page address of R83, read as numbers. -/

namespace Sys2Proof

@[simp] theorem toNat_hiByte (w : Word) : (hiByte w).toNat = w.toNat / 256 := by
  have hw : w.toNat < 65536 := w.isLt
  simp only [hiByte, BitVec.extractLsb'_toNat, Nat.shiftRight_eq_div_pow]
  omega

@[simp] theorem toNat_loByte (w : Word) : (loByte w).toNat = w.toNat % 256 := by
  simp [loByte]

/-- Concatenation is an `or` of disjoint bits, so it adds without a carry. -/
@[simp] theorem toNat_joinBytes (h l : Byte) :
    (joinBytes h l).toNat = h.toNat * 256 + l.toNat := by
  rw [joinBytes, BitVec.toNat_append, ← Nat.shiftLeft_add_eq_or_of_lt l.isLt,
    Nat.shiftLeft_eq]

@[simp] theorem toNat_zext16 (v : Byte) : (zext16 v).toNat = v.toNat :=
  BitVec.toNat_setWidth_of_le (by decide)

/-- The two cases of R17 are the two values of the sign bit. -/
theorem toNat_sext16 (v : Byte) :
    (sext16 v).toNat = if v.toNat < 0x80 then v.toNat else v.toNat + 0xFF00 := by
  have hmsb : v.msb = decide (0x80 ≤ v.toNat) := BitVec.msb_eq_decide v
  have hzext : (v.setWidth 16).toNat = v.toNat := toNat_zext16 v
  rw [sext16, BitVec.toNat_signExtend, hzext, hmsb]
  by_cases hneg : 0x80 ≤ v.toNat
  · simp [hneg, Nat.not_lt.mpr hneg]
  · simp [hneg, Nat.lt_of_not_le hneg]

/-- The high page is the last 256 bytes, so its address does not wrap. -/
@[simp] theorem Machine.toNat_highPage (n : Byte) : (highPage n).toNat = 0xFF00 + n.toNat := by
  have hn : n.toNat < 256 := n.isLt
  rw [highPage, BitVec.toNat_add, toNat_zext16]
  exact Nat.mod_eq_of_lt (Nat.add_lt_add_left hn 0xFF00)

/-- Settles O7, one numeric lemma for each function. -/
theorem byteFunctionsAreTheSpecs : Obligations.ByteFunctionsAreTheSpecs := fun w h l =>
  ⟨toNat_hiByte w, toNat_loByte w, toNat_joinBytes h l, toNat_sext16 l,
    Machine.toNat_highPage l⟩

end Sys2Proof
end

section
/-! PROOFS. What every instruction does, family by family: the inversion lemma of `exec`. -/

namespace Sys2Proof.Machine

/-- `Runs s t i`: the instruction `i`, run in `s`, ends in `t`. One row per family of the decoder
(R72 to R79), then one per instruction of no family, each with the shared operation it runs as. -/
inductive Runs (s : State) : State → Instr → Prop where
  | ldRR (d r : Reg8) : Runs s (s.ldRegReg d r) (instrLdRR d r)
  | ldRM (d : Reg8) : Runs s (s.ldRegMem d) (instrLdRM d)
  | ldMR (r : Reg8) : Runs s (s.ldMemReg r) (instrLdMR r)
  | ldRD8 (d : Reg8) (v : Byte) : Runs s (s.ldRegImm d v) (instrLdRD8 d v)
  | ldRrD16 (rr : Reg16) (w : Word) : Runs s (s.ldPairImm rr w) (instrLdRrD16 rr w)
  | push (rr : StackPair) : Runs s (s.pushPair rr) (instrPush rr)
  | pop (rr : StackPair) : Runs s (s.popPair rr) (instrPop rr)
  | alu (op : AluOp) (o : Operand8) : Runs s (s.aluOperand op o) (instrAlu op o)
  | aluD8 (op : AluOp) (v : Byte) : Runs s (s.aluImm op v) (instrAluD8 op v)
  | incR (r : Reg8) : Runs s (s.incReg r) (instrInc (.reg r))
  | incM : Runs s s.incMem (instrInc .mHL)
  | decR (r : Reg8) : Runs s (s.decReg r) (instrDec (.reg r))
  | decM : Runs s s.decMem (instrDec .mHL)
  | addHL (rr : Reg16) : Runs s (s.addHL rr) (instrAddHL rr)
  | incRr (rr : Reg16) : Runs s (s.incPair rr) (instrIncRr rr)
  | decRr (rr : Reg16) : Runs s (s.decPair rr) (instrDecRr rr)
  | rot (op : RotOp) (o : Operand8) : Runs s (s.rotOperand op o) (instrRot op o)
  | bit (b : Fin 8) (o : Operand8) : Runs s (s.bitOperand b o) (instrBit b o)
  | res (b : Fin 8) (o : Operand8) : Runs s (s.resOperand b o) (instrRes b o)
  | set (b : Fin 8) (o : Operand8) : Runs s (s.setOperand b o) (instrSet b o)
  | jpCc (cc : Cond) (w : Word) : Runs s (s.jpCond cc w) (instrJpCc cc w)
  | jrCc (cc : Cond) (e : Byte) : Runs s (s.jrCond cc e) (instrJrCc cc e)
  | callCc (cc : Cond) (w : Word) : Runs s (s.callCond cc w) (instrCallCc cc w)
  | retCc (cc : Cond) : Runs s (s.retCond cc) (instrRetCc cc)
  | rst (y : Fin 8) : Runs s (s.rst y) (instrRst y)
  | rlca : Runs s (s.rotAcc .rlc) .rlca
  | rrca : Runs s (s.rotAcc .rrc) .rrca
  | rla : Runs s (s.rotAcc .rl) .rla
  | rra : Runs s (s.rotAcc .rr) .rra
  | daa : Runs s s.daa .daa
  | cpl : Runs s s.cpl .cpl
  | scf : Runs s s.scf .scf
  | ccf : Runs s s.ccf .ccf
  | addSP (e : Byte) : Runs s (s.addSP e) (.add_SP_e8 e)
  | ldHLSP (e : Byte) : Runs s (s.ldHLSP e) (.ld_HL_SPe8 e)
  | ldSPHL : Runs s s.ldSPHL .ld_SP_HL
  | ldAccBC : Runs s (s.ldAccMem s.bc) .ld_A_mBC
  | ldAccDE : Runs s (s.ldAccMem s.de) .ld_A_mDE
  | ldAccC : Runs s (s.ldAccMem (highPage s.c)) .ld_A_mC
  | ldAccInc : Runs s (s.ldAccMemStep 1#16) .ld_A_mHLinc
  | ldAccDec : Runs s (s.ldAccMemStep (-1#16)) .ld_A_mHLdec
  | ldhLoad (n : Byte) : Runs s (s.ldhLoad n) (.ldh_A_ma8 n)
  | ldAbsLoad (w : Word) : Runs s (s.ldAbsLoad w) (.ld_A_ma16 w)
  | stBCAcc : Runs s (s.ldMemAcc s.bc) .ld_mBC_A
  | stDEAcc : Runs s (s.ldMemAcc s.de) .ld_mDE_A
  | stCAcc : Runs s (s.ldMemAcc (highPage s.c)) .ld_mC_A
  | stIncAcc : Runs s (s.ldMemAccStep 1#16) .ld_mHLinc_A
  | stDecAcc : Runs s (s.ldMemAccStep (-1#16)) .ld_mHLdec_A
  | ldhStore (n : Byte) : Runs s (s.ldhStore n) (.ldh_ma8_A n)
  | ldAbsStore (w : Word) : Runs s (s.ldAbsStore w) (.ld_ma16_A w)
  | ldAbsSP (w : Word) : Runs s (s.ldAbsSP w) (.ld_ma16_SP w)
  | ldMemImm (v : Byte) : Runs s (s.ldMemImm v) (.ld_mHL_d8 v)
  | jp (w : Word) : Runs s (s.jpAbs w) (.jp_a16 w)
  | jpHL : Runs s s.jpHL .jp_HL
  | jr (e : Byte) : Runs s (s.jrRel e) (.jr_e8 e)
  | call (w : Word) : Runs s (s.callAbs w) (.call_a16 w)
  | ret : Runs s s.ret .ret
  | reti : Runs s (s.returnFromInterrupt 16) .reti
  | nop : Runs s s.nop .nop
  | halt : Runs s s.halt .halt
  | stop (v : Byte) : Runs s s.stop (.stop v)
  | di : Runs s s.disableInterrupts .di
  | ei : Runs s s.enableInterrupts .ei
  | prefixCB (op2 : Byte) : Runs s (s.cbRow op2) (.prefix_CB op2)
  | undefined (i : Instr) (op : Byte) (hi : i.isUndefined = true) (hop : encode i = [op]) :
      Runs s (s.raiseUndefined op false) i

theorem Runs.of_eq {s t : State} {i j : Instr} (h : Runs s t j) (hij : j = i) : Runs s t i :=
  hij ▸ h

/-- Every instruction runs as its row says: the operation `exec` unfolds to names the row, and the
row's family then computes to the instruction. -/
theorem exec_runs (i : Instr) (s : State) : ∃ t, exec i s = .next t ∧ Runs s t i := by
  cases i
  case stop v => exact ⟨_, rfl, .stop v⟩
  case undefined_D3 | undefined_DB | undefined_DD | undefined_E3 | undefined_E4 | undefined_EB |
      undefined_EC | undefined_ED | undefined_F4 | undefined_FC | undefined_FD =>
    exact ⟨_, rfl, .undefined _ _ rfl rfl⟩
  all_goals
    refine ⟨_, rfl, ?_⟩
    apply Runs.of_eq
    · with_reducible constructor
    · rfl

/-- The inversion lemma of `exec`. -/
theorem runs_of_exec {i : Instr} {s t : State} (h : exec i s = .next t) : Runs s t i := by
  obtain ⟨u, hu, hruns⟩ := exec_runs i s
  obtain rfl : u = t := Host.Outcome.next.inj (hu.symm.trans h)
  exact hruns

end Sys2Proof.Machine
end

section
/-! PROOFS. A register write and its frame, the pairs as their two registers, F as a byte (R26, R27,
R34, R35). -/

namespace Sys2Proof.Machine

theorem State.setReg_reg (s : State) (r q : Reg8) (v : Byte) :
    (s.setReg r v).reg q = if q = r then v else s.reg q := by
  cases r <;> cases q <;> rfl

theorem State.setReg_frame (s : State) (r : Reg8) (v : Byte) :
    s.setReg r v =
      { s with
        a := (s.setReg r v).a, b := (s.setReg r v).b, c := (s.setReg r v).c, d := (s.setReg r v).d
        e := (s.setReg r v).e, h := (s.setReg r v).h, l := (s.setReg r v).l } := by
  cases r <;> rfl

/-- A pair reads back as written, its two bytes joined again (R27). -/
theorem State.setReg16_reg16 (s : State) (rr : Reg16) (w : Word) :
    (s.setReg16 rr w).reg16 rr = w := by
  cases rr
  case SP => rfl
  all_goals exact joinBytes_hiByte_loByte w

/-- F is the sum of its flags' weights (R34). -/
theorem Flags.toNat_toByte (f : Flags) :
    f.toByte.toNat = f.z.toNat * 0x80 + f.n.toNat * 0x40 + f.h.toNat * 0x20 + f.c.toNat * 0x10 := by
  obtain ⟨z, n, h, c⟩ := f
  revert z n h c
  decide

/-- Settles O8: the frame of a register write, and each pair as its two registers. -/
theorem registerAndPairWritesAreExact : Obligations.RegisterAndPairWritesAreExact := fun s v w =>
  ⟨fun r q => s.setReg_reg r q v, fun r => s.setReg_frame r v, fun rr => s.setReg16_reg16 rr w,
    ⟨rfl, rfl, rfl, rfl⟩, ⟨rfl, rfl, rfl, rfl⟩, rfl, rfl, rfl, rfl, ⟨rfl, rfl, rfl⟩, rfl,
    Flags.toByte_ofByte (loByte w), s.flags.toNat_toByte⟩

end Sys2Proof.Machine
end

section
/-! PROOFS. What no instruction outside an index of writers changes (R30, R40 to R42). -/

namespace Sys2Proof

/-- The instructions that write IME or `halted` (R41, R42). -/
def Instr.writesMode (i : Instr) : Bool :=
  match i with
  | .di | .ei | .reti | .halt | .stop _ => true
  | _ => false

/-- The registers that make up an operand pair (R26, R73). -/
def Reg16.parts : Reg16 → List Reg8
  | .BC => [.B, .C]
  | .DE => [.D, .E]
  | .HL => [.H, .L]
  | .SP => []

/-- The registers that make up a stack pair (R26, R74); of AF, F is no register of R72. -/
def StackPair.parts : StackPair → List Reg8
  | .BC => [.B, .C]
  | .DE => [.D, .E]
  | .HL => [.H, .L]
  | .AF => [.A]

namespace Machine
open Sys2Proof.Claims

/-! ### What the operand and the stack operations leave -/

@[simp] theorem State.readOperand_ime (s : State) (o : Operand8) :
    (s.readOperand o).2.ime = s.ime := by cases o <;> rfl

@[simp] theorem State.readOperand_halted (s : State) (o : Operand8) :
    (s.readOperand o).2.halted = s.halted := by cases o <;> rfl

@[simp] theorem State.readOperand_flags (s : State) (o : Operand8) :
    (s.readOperand o).2.flags = s.flags := by cases o <;> rfl

@[simp] theorem State.readOperand_sp (s : State) (o : Operand8) :
    (s.readOperand o).2.sp = s.sp := by cases o <;> rfl

@[simp] theorem State.writeOperand_ime (s : State) (o : Operand8) (v : Byte) :
    (s.writeOperand o v).ime = s.ime := by cases o <;> simp [State.writeOperand]

@[simp] theorem State.writeOperand_halted (s : State) (o : Operand8) (v : Byte) :
    (s.writeOperand o v).halted = s.halted := by cases o <;> simp [State.writeOperand]

@[simp] theorem State.writeOperand_flags (s : State) (o : Operand8) (v : Byte) :
    (s.writeOperand o v).flags = s.flags := by cases o <;> simp [State.writeOperand]

@[simp] theorem State.writeOperand_sp (s : State) (o : Operand8) (v : Byte) :
    (s.writeOperand o v).sp = s.sp := by cases o <;> simp [State.writeOperand]

@[simp] theorem State.push16_ime (s : State) (w : Word) : (s.push16 w).ime = s.ime := by
  rw [State.push16_eq]

@[simp] theorem State.push16_halted (s : State) (w : Word) :
    (s.push16 w).halted = s.halted := by
  rw [State.push16_eq]

@[simp] theorem State.push16_flags (s : State) (w : Word) : (s.push16 w).flags = s.flags := by
  rw [State.push16_eq]

@[simp] theorem State.pop16_ime (s : State) : s.pop16.2.ime = s.ime := by rw [State.pop16_eq]

@[simp] theorem State.pop16_halted (s : State) : s.pop16.2.halted = s.halted := by
  rw [State.pop16_eq]

@[simp] theorem State.pop16_flags (s : State) : s.pop16.2.flags = s.flags := by
  rw [State.pop16_eq]

/-! The stepping stores, for every step, so that the kernel does not compute with -1. -/

theorem State.ldMemAccStep_ime (s : State) (delta : Word) :
    (s.ldMemAccStep delta).ime = s.ime := rfl

theorem State.ldMemAccStep_halted (s : State) (delta : Word) :
    (s.ldMemAccStep delta).halted = s.halted := rfl

theorem State.ldMemAccStep_flags (s : State) (delta : Word) :
    (s.ldMemAccStep delta).flags = s.flags := rfl

theorem State.ldMemAccStep_sp (s : State) (delta : Word) :
    (s.ldMemAccStep delta).sp = s.sp := rfl

theorem State.stop_ime (s : State) : s.stop.ime = s.ime := by
  unfold State.stop
  split <;> rfl

theorem State.stop_flags (s : State) : s.stop.flags = s.flags := by
  unfold State.stop
  split <;> rfl

theorem State.stop_sp (s : State) : s.stop.sp = s.sp := by
  unfold State.stop
  split <;> rfl

/-! ### IME and `halted` -/

/-- STOP by its mode (R170); D3 is the spec's choice that it halts. -/
theorem State.stop_halted (s : State) :
    s.stop.halted = if s.cfg.stopMode = .haltLike then true else s.halted := by
  unfold State.stop
  split <;> simp [*]

/-- A row outside R41 and R42 leaves IME and `halted`. -/
theorem Runs.keeps_modes {s t : State} {i : Instr} (h : Runs s t i)
    (hi : i.writesMode = false) : t.ime = s.ime ∧ t.halted = s.halted := by
  cases h
  case stop | halt | di | ei | reti => nomatch hi
  case ldRR | ldRM | ldRD8 | incR | decR =>
    simp [State.ldRegReg, State.ldRegMem, State.ldRegImm, State.incReg, State.decReg]
  case ldRrD16 | incRr | decRr => simp [State.ldPairImm, State.incPair, State.decPair]
  case push | pop | call | ret | rst =>
    simp [State.pushPair, State.popPair, State.callAbs, State.ret, State.rst]
  case alu | rot | bit | res | set =>
    simp [State.aluOperand, State.rotOperand, State.bitOperand, State.resOperand, State.setOperand]
  case jpCc | jrCc | callCc | retCc =>
    simp only [State.jpCond, State.jrCond, State.callCond, State.retCond]
    split <;> simp
  case prefixCB =>
    unfold State.cbRow
    split <;> simp [State.rotOperand, State.bitOperand, State.resOperand, State.setOperand]
  case stIncAcc | stDecAcc => exact ⟨s.ldMemAccStep_ime _, s.ldMemAccStep_halted _⟩
  all_goals exact ⟨rfl, rfl⟩

/-- Settles O57: the five rows named are run; every other row keeps both. -/
theorem onlyNamedInstructionsWriteModes : Obligations.OnlyNamedInstructionsWriteModes := by
  intro i s t h
  cases i
  case di | ei | reti | halt => cases h; exact ⟨rfl, rfl⟩
  case stop v => cases h; exact ⟨s.stop_ime, s.stop_halted⟩
  all_goals exact (runs_of_exec h).keeps_modes rfl

/-! ### First bytes -/

theorem op1_instrAluD8 (op : AluOp) (v : Byte) :
    op1 (instrAluD8 op v) = 0xC6 + 8 * (aluCode op).toNat := by
  cases op <;> rfl

theorem op1_instrLdRD8 (d : Reg8) (v : Byte) :
    op1 (instrLdRD8 d v) = 0x06 + 8 * (regCode d).toNat := by
  cases d <;> rfl

theorem op1_instrLdRrD16 (rr : Reg16) (w : Word) :
    op1 (instrLdRrD16 rr w) = 0x01 + 16 * (reg16Code rr).toNat := by
  cases rr <;> rfl

theorem op1_instrCallCc (cc : Cond) (w : Word) :
    op1 (instrCallCc cc w) = 0xC4 + 8 * (condCode cc).toNat := by
  cases cc <;> rfl

theorem op1_add_SP_e8 (e : Byte) : op1 (.add_SP_e8 e) = 0xE8 := rfl

theorem op1_ld_HL_SPe8 (e : Byte) : op1 (.ld_HL_SPe8 e) = 0xF8 := rfl

theorem op1_call_a16 (w : Word) : op1 (.call_a16 w) = 0xCD := rfl

theorem op1_ldh_A_ma8 (n : Byte) : op1 (.ldh_A_ma8 n) = 0xF0 := rfl

theorem op1_ld_A_ma16 (w : Word) : op1 (.ld_A_ma16 w) = 0xFA := rfl

/-! ### The flags -/

theorem writesFlags_instrAlu (op : AluOp) (o : Operand8) : writesFlags (instrAlu op o) = true := by
  cases o
  case reg r => cases op <;> cases r <;> rfl
  case mHL => cases op <;> rfl

theorem writesFlags_instrAluD8 (op : AluOp) (v : Byte) : writesFlags (instrAluD8 op v) = true := by
  cases op <;> simp [writesFlags, op1_instrAluD8, aluCode]

theorem writesFlags_instrInc (o : Operand8) : writesFlags (instrInc o) = true := by
  cases o
  case reg r => cases r <;> rfl
  case mHL => rfl

theorem writesFlags_instrDec (o : Operand8) : writesFlags (instrDec o) = true := by
  cases o
  case reg r => cases r <;> rfl
  case mHL => rfl

theorem writesFlags_instrAddHL (rr : Reg16) : writesFlags (instrAddHL rr) = true := by
  cases rr <;> rfl

theorem writesFlags_instrPop (rr : StackPair) : writesFlags (instrPop rr) = decide (rr = .AF) := by
  cases rr <;> rfl

theorem writesFlags_instrRot (op : RotOp) (o : Operand8) : writesFlags (instrRot op o) = true := by
  cases o
  case reg r => cases op <;> cases r <;> rfl
  case mHL => cases op <;> rfl

theorem writesFlags_instrBit (b : Fin 8) (o : Operand8) : writesFlags (instrBit b o) = true := by
  cases o
  case reg r => revert b; cases r <;> decide
  case mHL => revert b; decide

theorem writesFlags_prefix_CB (op2 : Byte) :
    writesFlags (.prefix_CB op2) = decide (op2.toNat < 0x80) := rfl

theorem xField_val (op : Byte) : (xField op).val = op.toNat / 64 := by
  have hop : op.toNat < 256 := op.isLt
  simp only [xField, Fin.ofNat]
  omega

/-- RES and SET, the upper half of the CB page, write no flag (R152, R153). -/
theorem State.cbRow_flags (s : State) (op2 : Byte) (h : 0x80 ≤ op2.toNat) :
    (s.cbRow op2).flags = s.flags := by
  have hx : 2 ≤ (xField op2).val := by rw [xField_val]; omega
  unfold State.cbRow
  split
  case h_1 h0 => simp [h0] at hx
  case h_2 h1 => simp [h1] at hx
  case h_3 => simp [State.resOperand]
  case h_4 => simp [State.setOperand]

/-- A row outside the index of R40 leaves the flags. -/
theorem Runs.keeps_flags {s t : State} {i : Instr} (h : Runs s t i)
    (hi : writesFlags i = false) : t.flags = s.flags := by
  cases h
  case alu | aluD8 | incR | incM | decR | decM | addHL | rot | bit =>
    simp [writesFlags_instrAlu, writesFlags_instrAluD8, writesFlags_instrInc, writesFlags_instrDec,
      writesFlags_instrAddHL, writesFlags_instrRot, writesFlags_instrBit] at hi
  case rlca | rrca | rla | rra | daa | cpl | scf | ccf => nomatch hi
  case addSP | ldHLSP => simp [writesFlags, op1_add_SP_e8, op1_ld_HL_SPe8] at hi
  case pop rr =>
    have hAF : rr ≠ .AF := by simpa [writesFlags_instrPop] using hi
    simp [State.popPair, hAF]
  case prefixCB op2 =>
    exact s.cbRow_flags op2 (by simpa [writesFlags_prefix_CB] using hi)
  case ldRR | ldRM | ldRD8 => simp [State.ldRegReg, State.ldRegMem, State.ldRegImm]
  case ldRrD16 | incRr | decRr => simp [State.ldPairImm, State.incPair, State.decPair]
  case push | call | ret | reti | rst =>
    simp [State.pushPair, State.callAbs, State.ret, State.returnFromInterrupt, State.rst]
  case res | set => simp [State.resOperand, State.setOperand]
  case jpCc | jrCc | callCc | retCc =>
    simp only [State.jpCond, State.jrCond, State.callCond, State.retCond]
    split <;> simp
  case stIncAcc | stDecAcc => exact s.ldMemAccStep_flags _
  case stop => exact s.stop_flags
  all_goals rfl

/-- Settles O58, row by row of `Runs`. -/
theorem onlyIndexedInstructionsWriteFlags : Obligations.OnlyIndexedInstructionsWriteFlags :=
  fun _ _ _ h hi => (runs_of_exec h).keeps_flags hi

/-! ### SP -/

theorem writesSP_instrLdRrD16 (rr : Reg16) (w : Word) :
    writesSP (instrLdRrD16 rr w) = decide (rr = .SP) := by
  cases rr <;> simp [writesSP, op1_instrLdRrD16, reg16Code]

theorem writesSP_instrIncRr (rr : Reg16) : writesSP (instrIncRr rr) = decide (rr = .SP) := by
  cases rr <;> rfl

theorem writesSP_instrDecRr (rr : Reg16) : writesSP (instrDecRr rr) = decide (rr = .SP) := by
  cases rr <;> rfl

theorem writesSP_instrPush (rr : StackPair) : writesSP (instrPush rr) = true := by
  cases rr <;> rfl

theorem writesSP_instrPop (rr : StackPair) : writesSP (instrPop rr) = true := by
  cases rr <;> rfl

theorem writesSP_instrCallCc (cc : Cond) (w : Word) : writesSP (instrCallCc cc w) = true := by
  cases cc <;> simp [writesSP, op1_instrCallCc, condCode]

theorem writesSP_instrRetCc (cc : Cond) : writesSP (instrRetCc cc) = true := by
  cases cc <;> rfl

theorem writesSP_instrRst (y : Fin 8) : writesSP (instrRst y) = true := by
  revert y; decide

/-- A row outside the index of R30 leaves SP. -/
theorem Runs.keeps_sp {s t : State} {i : Instr} (h : Runs s t i)
    (hi : writesSP i = false) : t.sp = s.sp := by
  cases h
  case push | pop | callCc | retCc | rst =>
    simp [writesSP_instrPush, writesSP_instrPop, writesSP_instrCallCc, writesSP_instrRetCc,
      writesSP_instrRst] at hi
  case addSP | call => simp [writesSP, op1_add_SP_e8, op1_call_a16] at hi
  case ldSPHL | ret | reti => nomatch hi
  case ldRrD16 | incRr | decRr =>
    simp only [writesSP_instrLdRrD16, writesSP_instrIncRr, writesSP_instrDecRr,
      decide_eq_false_iff_not] at hi
    simp [State.ldPairImm, State.incPair, State.decPair, hi]
  case ldRR | ldRM | ldRD8 | incR | decR =>
    simp [State.ldRegReg, State.ldRegMem, State.ldRegImm, State.incReg, State.decReg]
  case alu | rot | bit | res | set =>
    simp [State.aluOperand, State.rotOperand, State.bitOperand, State.resOperand, State.setOperand]
  case prefixCB =>
    unfold State.cbRow
    split <;> simp [State.rotOperand, State.bitOperand, State.resOperand, State.setOperand]
  case jpCc | jrCc =>
    simp only [State.jpCond, State.jrCond]
    split <;> rfl
  case stIncAcc | stDecAcc => exact s.ldMemAccStep_sp _
  case stop => exact s.stop_sp
  all_goals rfl

/-! ### The registers -/

@[simp] theorem State.finish_reg (s : State) (len cycles : Nat) (q : Reg8) :
    (s.finish len cycles).reg q = s.reg q := by cases q <;> rfl

@[simp] theorem State.jumpTo_reg (s : State) (w : Word) (cycles : Nat) (q : Reg8) :
    (s.jumpTo w cycles).reg q = s.reg q := by cases q <;> rfl

@[simp] theorem State.afterRead_reg (s : State) (a : Word) (q : Reg8) :
    (s.afterRead a).reg q = s.reg q := by cases q <;> rfl

@[simp] theorem State.busWrite_reg (s : State) (a : Word) (v : Byte) (q : Reg8) :
    (s.busWrite a v).reg q = s.reg q := by cases q <;> rfl

@[simp] theorem State.withFlags_reg (s : State) (f : Flags) (q : Reg8) :
    ({ s with flags := f } : State).reg q = s.reg q := by cases q <;> rfl

@[simp] theorem State.readOperand_reg (s : State) (o : Operand8) (q : Reg8) :
    (s.readOperand o).2.reg q = s.reg q := by cases o <;> simp [State.readOperand]

@[simp] theorem State.push16_reg (s : State) (w : Word) (q : Reg8) :
    (s.push16 w).reg q = s.reg q := by
  rw [State.push16_eq]
  cases q <;> rfl

@[simp] theorem State.pop16_reg (s : State) (q : Reg8) : s.pop16.2.reg q = s.reg q := by
  rw [State.pop16_eq]
  cases q <;> rfl

theorem State.stop_reg (s : State) (q : Reg8) : s.stop.reg q = s.reg q := by
  unfold State.stop
  split <;> cases q <;> rfl

theorem State.returnFromInterrupt_reg (s : State) (cycles : Nat) (q : Reg8) :
    (s.returnFromInterrupt cycles).reg q = s.reg q :=
  calc (s.returnFromInterrupt cycles).reg q
    _ = s.pop16.2.reg q := by cases q <;> rfl
    _ = s.reg q := s.pop16_reg q

theorem State.setReg16_reg_of_notMem (s : State) {rr : Reg16} (w : Word) {q : Reg8}
    (hq : q ∉ rr.parts) : (s.setReg16 rr w).reg q = s.reg q := by
  cases rr <;> cases q <;> simp_all [Reg16.parts, State.setReg16, State.setHL, State.reg]

theorem State.setStackPair_reg_of_notMem (s : State) {rr : StackPair} (w : Word) {q : Reg8}
    (hq : q ∉ rr.parts) : (s.setStackPair rr w).reg q = s.reg q := by
  cases rr <;> cases q <;> simp_all [StackPair.parts, State.setStackPair, State.setHL, State.reg]

theorem State.setHL_reg_of_notMem (s : State) (w : Word) {q : Reg8} (hq : q ∉ Reg16.HL.parts) :
    (s.setHL w).reg q = s.reg q := s.setReg16_reg_of_notMem (rr := .HL) w hq

theorem State.writeOperand_reg_of_ne (s : State) {o : Operand8} (v : Byte) {q : Reg8}
    (hq : ∀ r, o = .reg r → q ≠ r) : (s.writeOperand o v).reg q = s.reg q := by
  cases o
  case reg r => simp [State.writeOperand, State.setReg_reg, hq r rfl]
  case mHL => simp [State.writeOperand]

/-- CP is the one ALU operation that leaves A (R121). -/
theorem State.alu_reg_of_kept (s : State) {op : AluOp} (v : Byte) {q : Reg8}
    (hq : q = .A → op = .cp) : (s.alu op v).reg q = s.reg q := by
  cases q
  case A => rw [hq rfl]; rfl
  all_goals rfl

theorem ne_of_writesReg {i : Instr} {r q : Reg8} (hr : writesReg i r = true)
    (hq : writesReg i q = false) : q ≠ r := fun h => by simp [h, hr] at hq

theorem notMem_of_writesReg {i : Instr} {W : List Reg8} {q : Reg8}
    (hW : ∀ r ∈ W, writesReg i r = true) (hq : writesReg i q = false) : q ∉ W :=
  fun hmem => ne_of_writesReg (hW q hmem) hq rfl

/-- The operand of a CB instruction that writes it, when it is a register. -/
theorem ne_of_writesReg_operand {mk : Operand8 → Instr} {o : Operand8} {q : Reg8}
    (hmk : ∀ r, writesReg (mk (.reg r)) r = true) (hq : writesReg (mk o) q = false) :
    ∀ r, o = .reg r → q ≠ r := by
  rintro r rfl
  exact ne_of_writesReg (hmk r) hq

theorem writesReg_instrLdRR (d r : Reg8) : writesReg (instrLdRR d r) d = true := by
  cases d <;> cases r <;> rfl

theorem writesReg_instrLdRM (d : Reg8) : writesReg (instrLdRM d) d = true := by
  cases d <;> rfl

theorem writesReg_instrLdRD8 (d : Reg8) (v : Byte) : writesReg (instrLdRD8 d v) d = true := by
  cases d <;> simp [writesReg, op1_instrLdRD8, regCode]

theorem writesReg_instrInc (r : Reg8) : writesReg (instrInc (.reg r)) r = true := by
  cases r <;> rfl

theorem writesReg_instrDec (r : Reg8) : writesReg (instrDec (.reg r)) r = true := by
  cases r <;> rfl

theorem writesReg_instrLdRrD16 (rr : Reg16) (w : Word) :
    ∀ r ∈ rr.parts, writesReg (instrLdRrD16 rr w) r = true := by
  cases rr <;> simp [Reg16.parts, writesReg, op1_instrLdRrD16, reg16Code]

theorem writesReg_instrIncRr (rr : Reg16) :
    ∀ r ∈ rr.parts, writesReg (instrIncRr rr) r = true := by
  cases rr <;> decide

theorem writesReg_instrDecRr (rr : Reg16) :
    ∀ r ∈ rr.parts, writesReg (instrDecRr rr) r = true := by
  cases rr <;> decide

theorem writesReg_instrPop (rr : StackPair) :
    ∀ r ∈ rr.parts, writesReg (instrPop rr) r = true := by
  cases rr <;> decide

theorem writesReg_instrAddHL (rr : Reg16) :
    ∀ r ∈ Reg16.HL.parts, writesReg (instrAddHL rr) r = true := by
  cases rr <;> decide

theorem writesReg_ld_HL_SPe8 (e : Byte) :
    ∀ r ∈ Reg16.HL.parts, writesReg (.ld_HL_SPe8 e) r = true := by
  simp [Reg16.parts, writesReg, op1_ld_HL_SPe8]

theorem writesReg_instrAlu (op : AluOp) (o : Operand8) :
    writesReg (instrAlu op o) .A = decide (op ≠ .cp) := by
  cases o
  case reg r => cases op <;> cases r <;> rfl
  case mHL => cases op <;> rfl

theorem writesReg_instrAluD8 (op : AluOp) (v : Byte) :
    writesReg (instrAluD8 op v) .A = decide (op ≠ .cp) := by
  cases op <;> simp [writesReg, op1_instrAluD8, aluCode]

theorem writesReg_instrRot (op : RotOp) (r : Reg8) :
    writesReg (instrRot op (.reg r)) r = true := by
  cases op <;> cases r <;> rfl

theorem writesReg_instrRes (b : Fin 8) (r : Reg8) :
    writesReg (instrRes b (.reg r)) r = true := by
  revert b; cases r <;> decide

theorem writesReg_instrSet (b : Fin 8) (r : Reg8) :
    writesReg (instrSet b (.reg r)) r = true := by
  revert b; cases r <;> decide

/-- A row leaves every register it is not listed under in R30. The bare 0xCB row stands for
CB rows that write different registers, so the index does not speak of it. -/
theorem Runs.keeps_reg {s t : State} {i : Instr} (h : Runs s t i) (hwf : i.wellFormed = true)
    {q : Reg8} (hi : writesReg i q = false) : t.reg q = s.reg q := by
  cases h
  case prefixCB => nomatch hwf
  case ldRR d r =>
    have hq : q ≠ d := ne_of_writesReg (writesReg_instrLdRR d r) hi
    simp [State.ldRegReg, State.setReg_reg, hq]
  case ldRM d =>
    have hq : q ≠ d := ne_of_writesReg (writesReg_instrLdRM d) hi
    simp [State.ldRegMem, State.setReg_reg, hq]
  case ldRD8 d v =>
    have hq : q ≠ d := ne_of_writesReg (writesReg_instrLdRD8 d v) hi
    simp [State.ldRegImm, State.setReg_reg, hq]
  case incR r =>
    have hq : q ≠ r := ne_of_writesReg (writesReg_instrInc r) hi
    simp [State.incReg, State.setReg_reg, hq]
  case decR r =>
    have hq : q ≠ r := ne_of_writesReg (writesReg_instrDec r) hi
    simp [State.decReg, State.setReg_reg, hq]
  case ldRrD16 rr w =>
    have hq : q ∉ rr.parts := notMem_of_writesReg (writesReg_instrLdRrD16 rr w) hi
    simp [State.ldPairImm, State.setReg16_reg_of_notMem, hq]
  case incRr rr =>
    have hq : q ∉ rr.parts := notMem_of_writesReg (writesReg_instrIncRr rr) hi
    simp [State.incPair, State.setReg16_reg_of_notMem, hq]
  case decRr rr =>
    have hq : q ∉ rr.parts := notMem_of_writesReg (writesReg_instrDecRr rr) hi
    simp [State.decPair, State.setReg16_reg_of_notMem, hq]
  case pop rr =>
    have hq : q ∉ rr.parts := notMem_of_writesReg (writesReg_instrPop rr) hi
    simp [State.popPair, State.setStackPair_reg_of_notMem, hq]
  case addHL rr =>
    have hq : q ∉ Reg16.HL.parts := notMem_of_writesReg (writesReg_instrAddHL rr) hi
    simp [State.addHL, State.setHL_reg_of_notMem, hq]
  case ldHLSP e =>
    have hq : q ∉ Reg16.HL.parts := notMem_of_writesReg (writesReg_ld_HL_SPe8 e) hi
    simp [State.ldHLSP, State.setHL_reg_of_notMem, hq]
  case stIncAcc | stDecAcc =>
    have hq : q ∉ Reg16.HL.parts := notMem_of_writesReg (by decide) hi
    simp only [State.ldMemAccStep, State.finish_reg, State.setHL_reg_of_notMem _ _ hq,
      State.busWrite_reg]
  case alu op o =>
    have hA : q = .A → op = .cp := by
      rintro rfl
      simpa [writesReg_instrAlu] using hi
    simp [State.aluOperand, State.alu_reg_of_kept _ _ hA]
  case aluD8 op v =>
    have hA : q = .A → op = .cp := by
      rintro rfl
      simpa [writesReg_instrAluD8] using hi
    simp [State.aluImm, State.alu_reg_of_kept _ _ hA]
  case rot op o =>
    have hq : ∀ r, o = .reg r → q ≠ r :=
      ne_of_writesReg_operand (mk := instrRot op) (writesReg_instrRot op) hi
    simp only [State.rotOperand, State.finish_reg, State.writeOperand_reg_of_ne _ _ hq,
      State.withFlags_reg, State.readOperand_reg]
  case res b o =>
    have hq : ∀ r, o = .reg r → q ≠ r :=
      ne_of_writesReg_operand (mk := instrRes b) (writesReg_instrRes b) hi
    simp [State.resOperand, State.writeOperand_reg_of_ne _ _ hq]
  case set b o =>
    have hq : ∀ r, o = .reg r → q ≠ r :=
      ne_of_writesReg_operand (mk := instrSet b) (writesReg_instrSet b) hi
    simp [State.setOperand, State.writeOperand_reg_of_ne _ _ hq]
  case bit =>
    simp only [State.bitOperand, State.finish_reg, State.withFlags_reg, State.readOperand_reg]
  case rlca | rrca | rla | rra | daa | cpl | ldAccBC | ldAccDE | ldAccC =>
    cases q
    case A => nomatch hi
    all_goals rfl
  case ldhLoad | ldAbsLoad =>
    cases q
    case A => simp [writesReg, op1_ldh_A_ma8, op1_ld_A_ma16] at hi
    all_goals rfl
  case ldAccInc | ldAccDec =>
    cases q
    case A | H | L => nomatch hi
    all_goals rfl
  case push | call | ret | rst =>
    simp [State.pushPair, State.callAbs, State.ret, State.rst]
  case jpCc | jrCc | callCc | retCc =>
    simp only [State.jpCond, State.jrCond, State.callCond, State.retCond]
    split <;> simp
  case reti => exact s.returnFromInterrupt_reg 16 q
  case stop => exact s.stop_reg q
  all_goals cases q <;> rfl

/-- Settles O59, row by row of `Runs`, for a register and for SP. -/
theorem onlyIndexedInstructionsWriteRegisters :
    Obligations.OnlyIndexedInstructionsWriteRegisters := fun _ _ _ h =>
  ⟨fun _ hwf hi => (runs_of_exec h).keeps_reg hwf hi, (runs_of_exec h).keeps_sp⟩

end Machine
end Sys2Proof
end

section
/-! PROOFS. A canonical memory is determined by what it reads as (R49, R67). -/

namespace Sys2Proof.Machine

/-- The cells of a canonical memory are the addresses that read as something listed, each with what
it reads as. -/
theorem Memory.mem_iff_read {m : Memory} (h : m.wf) (a : Word) (v : Byte) :
    (a.toNat, v) ∈ m ↔ v ≠ unlistedByte ∧ m.read a = v := by
  induction m with
  | nil => simpa [Memory.read] using fun hv h0 => hv h0.symm
  | cons x m ih =>
    obtain ⟨k, w⟩ := x
    have hlt : ∀ y ∈ m, k < y.1 := Memory.wf_head_lt h
    have hw : w ≠ unlistedByte := (h.2 (k, w) List.mem_cons_self).2
    have hnotMem (hak : a.toNat ≤ k) : (a.toNat, v) ∉ m := fun hm => (hlt _ hm).not_ge hak
    obtain hak | hak | hak := Nat.lt_trichotomy a.toNat k
    · have hne : v ≠ unlistedByte → unlistedByte ≠ v := Ne.symm
      simpa [Memory.read, hak, hak.ne, hnotMem hak.le] using hne
    · subst hak
      have hcell : v = w ↔ v ≠ unlistedByte ∧ w = v :=
        ⟨fun hv => ⟨hv ▸ hw, hv.symm⟩, fun hv => hv.2.symm⟩
      simpa [Memory.read, hnotMem le_rfl] using hcell
    · simpa [Memory.read, hak.ne', hak.not_gt] using ih (Memory.wf_tail h)

/-- Two canonical memories that read alike list the same cells. -/
theorem Memory.mem_of_read_eq {m m' : Memory} (h : m.wf) (h' : m'.wf)
    (hread : ∀ a, m.read a = m'.read a) {x : Host.Cell} (hx : x ∈ m) : x ∈ m' := by
  obtain ⟨k, v⟩ := x
  have hk : k < 65536 := (h.2 _ hx).1
  obtain ⟨a, rfl⟩ : ∃ a : Word, a.toNat = k := ⟨BitVec.ofNatLT k hk, rfl⟩
  rwa [Memory.mem_iff_read h', ← hread, ← Memory.mem_iff_read h]

theorem Memory.nodup_of_wf {m : Memory} (h : m.wf) : m.Nodup :=
  h.1.imp fun hlt heq => hlt.ne (congrArg Prod.fst heq)

/-- Settles O9: the same cells in the same, strictly rising, order. -/
theorem canonicalMemoriesAreEqualByReads : Obligations.CanonicalMemoriesAreEqualByReads := by
  intro m m' h h' hread
  have hmem (x : Host.Cell) : x ∈ m ↔ x ∈ m' :=
    ⟨Memory.mem_of_read_eq h h' hread, Memory.mem_of_read_eq h' h fun a => (hread a).symm⟩
  have hperm : m.Perm m' :=
    (List.perm_ext_iff_of_nodup (Memory.nodup_of_wf h) (Memory.nodup_of_wf h')).2 hmem
  exact hperm.eq_of_pairwise (fun _ _ _ _ hab hba => absurd hab hba.not_gt) h.1 h'.1

end Sys2Proof.Machine
end

section
/-! PROOFS. What an instruction outside the index of stores leaves in memory and on the bus (R55). -/

namespace Sys2Proof.Machine
open Sys2Proof.Claims

/-! ### Runs that only read the bus -/

/-- From `s` to `t` the memory is untouched and the bus has seen reads only. -/
def OnlyReads (s t : State) : Prop :=
  t.mem = s.mem ∧ ∃ reads : List (Word × Byte),
    t.trace = s.trace ++ reads.map (fun x => .read x.1 x.2)

theorem OnlyReads.of_eq {s t : State} (hmem : t.mem = s.mem) (htrace : t.trace = s.trace) :
    OnlyReads s t := ⟨hmem, [], by simp [htrace]⟩

theorem OnlyReads.trans {s t u : State} (hst : OnlyReads s t) (htu : OnlyReads t u) :
    OnlyReads s u := by
  obtain ⟨hmem, reads, htrace⟩ := hst
  obtain ⟨hmem', reads', htrace'⟩ := htu
  exact ⟨hmem'.trans hmem, reads ++ reads', by simp [htrace', htrace]⟩

/-- What follows a read off the bus does not count. -/
theorem OnlyReads.trans_eq {s t u : State} (hst : OnlyReads s t) (hmem : u.mem = t.mem)
    (htrace : u.trace = t.trace) : OnlyReads s u := hst.trans (.of_eq hmem htrace)

theorem State.afterRead_onlyReads (s : State) (a : Word) : OnlyReads s (s.afterRead a) :=
  ⟨rfl, [(a, s.busAnswer a)], rfl⟩

theorem State.pop16_onlyReads (s : State) : OnlyReads s s.pop16.2 :=
  ((s.afterRead_onlyReads s.sp).trans (State.afterRead_onlyReads _ (s.sp + 1#16))).trans_eq
    (by simp [State.pop16_eq]) (by simp [State.pop16_eq])

theorem State.readOperand_onlyReads (s : State) (o : Operand8) :
    OnlyReads s (s.readOperand o).2 := by
  cases o
  case reg r => exact .of_eq rfl rfl
  case mHL => exact s.afterRead_onlyReads s.hl

theorem State.writeOperand_onlyReads (s : State) {o : Operand8} (ho : o ≠ .mHL) (v : Byte) :
    OnlyReads s (s.writeOperand o v) := by
  cases o
  case reg r => exact .of_eq (by simp [State.writeOperand]) (by simp [State.writeOperand])
  case mHL => exact absurd rfl ho

/-! ### The operand operations that only read -/

theorem State.aluOperand_onlyReads (s : State) (op : AluOp) (o : Operand8) :
    OnlyReads s (s.aluOperand op o) :=
  (s.readOperand_onlyReads o).trans_eq rfl rfl

theorem State.bitOperand_onlyReads (s : State) (b : Fin 8) (o : Operand8) :
    OnlyReads s (s.bitOperand b o) :=
  (s.readOperand_onlyReads o).trans_eq rfl rfl

theorem State.rotOperand_onlyReads (s : State) (op : RotOp) {o : Operand8} (ho : o ≠ .mHL) :
    OnlyReads s (s.rotOperand op o) :=
  have hread : OnlyReads s { (s.readOperand o).2 with
      flags := rotFlags (rotResult op (s.readOperand o).1 s.flags.c) } :=
    (s.readOperand_onlyReads o).trans_eq rfl rfl
  (hread.trans (State.writeOperand_onlyReads _ ho _)).trans_eq rfl rfl

theorem State.resOperand_onlyReads (s : State) (b : Fin 8) {o : Operand8} (ho : o ≠ .mHL) :
    OnlyReads s (s.resOperand b o) :=
  ((s.readOperand_onlyReads o).trans (State.writeOperand_onlyReads _ ho _)).trans_eq rfl rfl

theorem State.setOperand_onlyReads (s : State) (b : Fin 8) {o : Operand8} (ho : o ≠ .mHL) :
    OnlyReads s (s.setOperand b o) :=
  ((s.readOperand_onlyReads o).trans (State.writeOperand_onlyReads _ ho _)).trans_eq rfl rfl

theorem State.ldAccMem_onlyReads (s : State) (a : Word) : OnlyReads s (s.ldAccMem a) :=
  (s.afterRead_onlyReads a).trans_eq rfl rfl

theorem State.ldAccMemStep_onlyReads (s : State) (delta : Word) :
    OnlyReads s (s.ldAccMemStep delta) :=
  (s.afterRead_onlyReads s.hl).trans_eq rfl rfl

theorem State.stop_onlyReads (s : State) : OnlyReads s s.stop := by
  unfold State.stop
  split <;> exact .of_eq rfl rfl

theorem operand8Of_ne_mHL {code : Fin 8} (h : code ≠ 6) : operand8Of code ≠ .mHL := by
  revert code; decide

/-- Of the CB page only the rows on (HL) store, and of those not BIT, the second quarter (R151). -/
theorem State.cbRow_onlyReads (s : State) (op2 : Byte)
    (h : op2.toNat % 8 = 6 → op2.toNat / 64 = 1) : OnlyReads s (s.cbRow op2) := by
  have ho (hx : (xField op2).val ≠ 1) : operand8Of (zField op2) ≠ .mHL := by
    refine operand8Of_ne_mHL fun hz => hx ?_
    rw [xField_val]
    exact h (congrArg Fin.val hz)
  unfold State.cbRow
  split
  case h_1 hx => exact s.rotOperand_onlyReads _ (ho (by simp [hx]))
  case h_2 => exact s.bitOperand_onlyReads _ _
  case h_3 hx => exact s.resOperand_onlyReads _ (ho (by simp [hx]))
  case h_4 hx => exact s.setOperand_onlyReads _ (ho (by simp [hx]))

/-! ### The index of R55 -/

theorem op1_ldh_ma8_A (n : Byte) : op1 (.ldh_ma8_A n) = 0xE0 := rfl

theorem op1_ld_ma16_A (w : Word) : op1 (.ld_ma16_A w) = 0xEA := rfl

theorem op1_ld_ma16_SP (w : Word) : op1 (.ld_ma16_SP w) = 0x08 := rfl

theorem op1_ld_mHL_d8 (v : Byte) : op1 (.ld_mHL_d8 v) = 0x36 := rfl

theorem storesMemory_instrLdMR (r : Reg8) : storesMemory (instrLdMR r) = true := by
  cases r <;> rfl

theorem storesMemory_instrPush (rr : StackPair) : storesMemory (instrPush rr) = true := by
  cases rr <;> rfl

theorem storesMemory_instrCallCc (cc : Cond) (w : Word) :
    storesMemory (instrCallCc cc w) = true := by
  cases cc <;> simp [storesMemory, op1_instrCallCc, condCode]

theorem storesMemory_instrRst (y : Fin 8) : storesMemory (instrRst y) = true := by
  revert y; decide

theorem storesMemory_instrRot_mHL (op : RotOp) : storesMemory (instrRot op .mHL) = true := by
  cases op <;> rfl

theorem storesMemory_instrRes_mHL (b : Fin 8) : storesMemory (instrRes b .mHL) = true := by
  revert b; decide

theorem storesMemory_instrSet_mHL (b : Fin 8) : storesMemory (instrSet b .mHL) = true := by
  revert b; decide

theorem storesMemory_prefix_CB (op2 : Byte) :
    storesMemory (.prefix_CB op2) =
      decide (op2.toNat % 8 = 6 ∧ ¬(0x40 ≤ op2.toNat ∧ op2.toNat < 0x80)) := rfl

/-- A CB instruction that stores when its operand is (HL) and is outside the index of R55 has a
register operand. -/
theorem ne_mHL_of_storesMemory {mk : Operand8 → Instr} {o : Operand8}
    (hmk : storesMemory (mk .mHL) = true) (ho : storesMemory (mk o) = false) : o ≠ .mHL :=
  fun h => by simp [h, hmk] at ho

/-- A row outside the index of R55 leaves the memory and only reads the bus. -/
theorem Runs.onlyReads {s t : State} {i : Instr} (h : Runs s t i)
    (hi : storesMemory i = false) : OnlyReads s t := by
  cases h
  case ldMR | push | callCc | rst =>
    simp [storesMemory_instrLdMR, storesMemory_instrPush, storesMemory_instrCallCc,
      storesMemory_instrRst] at hi
  case incM | decM | stBCAcc | stDEAcc | stCAcc | stIncAcc | stDecAcc => nomatch hi
  case ldhStore | ldAbsStore | ldAbsSP | ldMemImm | call =>
    simp [storesMemory, op1_ldh_ma8_A, op1_ld_ma16_A, op1_ld_ma16_SP, op1_ld_mHL_d8,
      op1_call_a16] at hi
  case rot op o =>
    exact s.rotOperand_onlyReads op
      (ne_mHL_of_storesMemory (mk := instrRot op) (storesMemory_instrRot_mHL op) hi)
  case res b o =>
    exact s.resOperand_onlyReads b
      (ne_mHL_of_storesMemory (mk := instrRes b) (storesMemory_instrRes_mHL b) hi)
  case set b o =>
    exact s.setOperand_onlyReads b
      (ne_mHL_of_storesMemory (mk := instrSet b) (storesMemory_instrSet_mHL b) hi)
  case prefixCB op2 =>
    rw [storesMemory_prefix_CB, decide_eq_false_iff_not] at hi
    exact s.cbRow_onlyReads op2 (by omega)
  case alu op o => exact s.aluOperand_onlyReads op o
  case bit b o => exact s.bitOperand_onlyReads b o
  case ldRM d =>
    exact (s.afterRead_onlyReads s.hl).trans_eq (by simp [State.ldRegMem])
      (by simp [State.ldRegMem])
  case ldAccBC | ldAccDE | ldAccC => exact s.ldAccMem_onlyReads _
  case ldAccInc | ldAccDec => exact s.ldAccMemStep_onlyReads _
  case ldhLoad n => exact (s.afterRead_onlyReads (highPage n)).trans_eq rfl rfl
  case ldAbsLoad w => exact (s.afterRead_onlyReads w).trans_eq rfl rfl
  case pop rr =>
    exact s.pop16_onlyReads.trans_eq (by simp [State.popPair]) (by simp [State.popPair])
  case ret | reti => exact s.pop16_onlyReads.trans_eq rfl rfl
  case retCc cc =>
    unfold State.retCond
    split
    · exact s.pop16_onlyReads.trans_eq rfl rfl
    · exact .of_eq rfl rfl
  case jpCc | jrCc =>
    simp only [State.jpCond, State.jrCond]
    split <;> exact .of_eq rfl rfl
  case stop => exact s.stop_onlyReads
  case ldRR | ldRD8 | incR | decR =>
    apply OnlyReads.of_eq <;>
      simp [State.ldRegReg, State.ldRegImm, State.incReg, State.decReg]
  case ldRrD16 | incRr | decRr =>
    apply OnlyReads.of_eq <;> simp [State.ldPairImm, State.incPair, State.decPair]
  all_goals exact .of_eq rfl rfl

/-- Settles O60, row by row of `Runs`. -/
theorem onlyIndexedInstructionsStore : Obligations.OnlyIndexedInstructionsStore := by
  intro i s t h hi
  obtain ⟨hmem, htrace⟩ : OnlyReads s t := (runs_of_exec h).onlyReads hi
  exact ⟨fun b => by rw [hmem], hmem, htrace⟩

end Sys2Proof.Machine
end

section
/-! PROOFS. What the environment does between steps (R61, R173, R182, R196, R197). -/

namespace Sys2Proof.Machine
open Sys2Proof.Claims

/-- A store leaves what `StoresByte` says (R62, R67). -/
theorem Memory.write_storesByte (m : Memory) (a : Word) (v : Byte) :
    StoresByte m (m.write a v) a v := fun h b => Memory.read_write h a b v

/-- No action of the environment reads or writes the actions still to come. -/
theorem State.applyAction_withInputs (s : State) (x : EnvAction) (next : List (List EnvAction)) :
    ({ s with inputs := next } : State).applyAction x =
      { s.applyAction x with inputs := next } := by
  cases x <;> rfl

/-- Delivering the head of a step's actions alone, then the rest of them, is delivering them all. -/
theorem State.deliver_cons_cons {s : State} {x : EnvAction} {acts : List EnvAction}
    {rest : List (List EnvAction)} (h : s.inputs = (x :: acts) :: rest) :
    s.deliver = ({ s with inputs := [x] :: acts :: rest } : State).deliver.deliver := by
  have hhead : ({ s with inputs := [x] :: acts :: rest } : State).deliver =
      { s.applyAction x with inputs := acts :: rest } :=
    s.applyAction_withInputs x (acts :: rest)
  calc s.deliver
    _ = acts.foldl State.applyAction (({ s with inputs := rest } : State).applyAction x) :=
      State.deliver_cons h
    _ = acts.foldl State.applyAction { s.applyAction x with inputs := rest } := by
      rw [State.applyAction_withInputs]
    _ = ({ s.applyAction x with inputs := acts :: rest } : State).deliver := rfl
    _ = ({ s with inputs := [x] :: acts :: rest } : State).deliver.deliver := by rw [hhead]

/-- Settles O51: each action once, then the order of several. -/
theorem environmentActions : Obligations.EnvironmentActions := fun s _ =>
  ⟨fun _ h => ⟨_, State.deliver_cons h, s.mem.write_storesByte _ _⟩,
    fun _ _ h => ⟨_, State.deliver_cons h, s.mem.write_storesByte _ _⟩,
    State.deliver_cons, State.deliver_nil, State.deliver_cons,
    fun _ _ => State.deliver_cons_cons⟩

end Sys2Proof.Machine
end

section
/-! PROOFS. The decoder and the encoder hold the same code: what a cell of the opcode map reads, cell by
cell against `encode`, and `encode` row by row against the cells. -/

namespace Sys2Proof

/-! ### What a cell reads -/

/-- `c.Reads args i`: a first byte of the cell `c`, followed by the operand bytes `args`, is the
instruction `i` (R69, R81, R86). -/
inductive Cell.Reads : Cell → List Byte → Instr → Prop where
  | op (i : Instr) : Reads (.op i) [] i
  | imm8 (f : Byte → Instr) (v : Byte) : Reads (.imm8 f) [v] (f v)
  | imm16 (f : Word → Instr) (w : Word) : Reads (.imm16 f) [loByte w, hiByte w] (f w)
  | stop (v : Byte) : Reads .stop [v] (.stop v)
  | cb (op2 : Byte) : Reads .cb [op2] (cbInstr op2)

/-- How many bytes a word of the cell has, the opcode with them (R69). -/
def Cell.size : Cell → Nat
  | .op _ => 1
  | .imm8 _ => 2
  | .imm16 _ => 3
  | .stop => 2
  | .cb => 2

theorem Cell.Reads.length_args {c : Cell} {args : List Byte} {i : Instr} (h : c.Reads args i) :
    args.length + 1 = c.size := by
  cases h <;> rfl

/-- R70's lists are the sizes of the cells of R84. -/
theorem lengthOf_eq_size (op : Byte) : lengthOf op = (cell op).size := by
  revert op; decide

theorem Cell.Reads.decode_eq {op : Byte} {args : List Byte} {i : Instr}
    (h : (cell op).Reads args i) (rest : List Byte) : decode (op :: (args ++ rest)) = .ok i rest := by
  generalize hc : cell op = c at h
  cases h <;> simp [decode, hc]

theorem decode_of_short {op : Byte} {bytes : List Byte} (h : bytes.length + 1 < (cell op).size) :
    decode (op :: bytes) = .refused (.truncated op) := by
  generalize hc : cell op = c at h
  match c, bytes with
  | .imm8 _, [] | .imm16 _, [] | .imm16 _, [_] | .stop, [] | .cb, [] => simp [decode, hc]

/-- Enough bytes begin with a word of the cell. -/
theorem Cell.exists_reads {c : Cell} {bytes : List Byte} (h : c.size ≤ bytes.length + 1) :
    ∃ args rest i, bytes = args ++ rest ∧ c.Reads args i := by
  match c, bytes with
  | .op i, bytes => exact ⟨[], bytes, i, rfl, .op i⟩
  | .imm8 f, v :: rest => exact ⟨[v], rest, f v, rfl, .imm8 f v⟩
  | .imm16 f, l :: h :: rest =>
    exact ⟨[l, h], rest, f (joinBytes h l), rfl, by simpa using Reads.imm16 f (joinBytes h l)⟩
  | .stop, v :: rest => exact ⟨[v], rest, .stop v, rfl, .stop v⟩
  | .cb, op2 :: rest => exact ⟨[op2], rest, cbInstr op2, rfl, .cb op2⟩

/-- The inversion lemma of `decode`: an accepted list is a first byte, the operand bytes its cell
reads, and the bytes left over. -/
theorem reads_of_decode {bytes rest : List Byte} {i : Instr} (h : decode bytes = .ok i rest) :
    ∃ op args, bytes = op :: (args ++ rest) ∧ (cell op).Reads args i := by
  match bytes with
  | [] => nomatch h
  | op :: bytes =>
    obtain hshort | hlong := Nat.lt_or_ge (bytes.length + 1) (cell op).size
    · nomatch (decode_of_short hshort).symm.trans h
    · obtain ⟨args, rest', j, rfl, hreads⟩ := Cell.exists_reads hlong
      obtain ⟨rfl, rfl⟩ := DecodeResult.ok.inj ((hreads.decode_eq rest').symm.trans h)
      exact ⟨op, args, rfl, hreads⟩

/-! ### The encoder against the cells -/

/-- Row by row: the first byte of the encoding names a cell, and the form of that cell is the one way it
can read the rest. -/
theorem encode_reads {i : Instr} (h : i.wellFormed = true) :
    ∃ op args, encode i = op :: args ∧ (cell op).Reads args i := by
  cases i
  case prefix_CB => nomatch h
  all_goals exact ⟨_, _, rfl, by constructor⟩

/-- Settles O1: the cell of the first byte reads the instruction, whatever follows it. -/
theorem decodeOfEncodeGivesInstructionBack : Obligations.DecodeOfEncodeGivesInstructionBack := by
  intro i rest hwf
  obtain ⟨op, args, hencode, hreads⟩ := encode_reads hwf
  rw [hencode]
  exact hreads.decode_eq rest

/-! ### The cells against the encoder -/

/-- The fields x, y and z of the second byte are all its bits (R71, R87). -/
theorem encode_cbInstr (op2 : Byte) :
    (cbInstr op2).wellFormed = true ∧ encode (cbInstr op2) = [0xCB#8, op2] := by
  revert op2; decide

/-- The converse of `encode_reads`, opcode by opcode; at 0xCB the cell is the CB page. -/
theorem Cell.Reads.encode_eq {op : Byte} {args : List Byte} {i : Instr}
    (h : (cell op).Reads args i) : i.wellFormed = true ∧ encode i = op :: args := by
  obtain ⟨n, hn, rfl⟩ : ∃ n < 256, op = BitVec.ofNat 8 n := ⟨op.toNat, op.isLt, by simp⟩
  obtain hbelow | rfl | habove := Nat.lt_trichotomy n 0xCB
  case inr.inl =>
    cases h
    exact encode_cbInstr _
  all_goals
    interval_cases n
    all_goals
      cases h
      exact ⟨rfl, rfl⟩

/-- Settles O2: the list is what the cell of its first byte reads, and the encoder writes the same. -/
theorem decodedBytesAreTheEncoding : Obligations.DecodedBytesAreTheEncoding := by
  intro bytes i rest h
  obtain ⟨op, args, rfl, hreads⟩ := reads_of_decode h
  obtain ⟨hwf, hencode⟩ := hreads.encode_eq
  exact ⟨hwf, by rw [hencode]; rfl⟩

/-! ### Lengths and the undefined opcodes -/

/-- Settles O3: enough bytes are a word of the first byte's cell, fewer are refused. -/
theorem lengthIsFunctionOfFirstByte : Obligations.LengthIsFunctionOfFirstByte := by
  intro op bytes
  rw [lengthOf_eq_size]
  refine ⟨fun hlong => ?_, decode_of_short⟩
  obtain ⟨args, rest, i, rfl, hreads⟩ := Cell.exists_reads hlong
  refine ⟨i, rest, hreads.decode_eq rest, ?_⟩
  rw [← hreads.length_args, List.length_append]
  omega

/-- The encoding has a first byte, and it is one of R89's exactly when the row is undefined. -/
theorem exists_encode_isUndefined (i : Instr) :
    ∃ op args, encode i = op :: args ∧ i.isUndefined = decide (op ∈ undefinedOpcodes) := by
  cases i
  all_goals exact ⟨_, _, rfl, rfl⟩

theorem isUndefined_iff_of_encode {i : Instr} {op : Byte} {args : List Byte}
    (h : encode i = op :: args) : i.isUndefined = true ↔ op ∈ undefinedOpcodes := by
  obtain ⟨op', args', hencode, hundef⟩ := exists_encode_isUndefined i
  obtain ⟨rfl, rfl⟩ := List.cons.inj (hencode.symm.trans h)
  rw [hundef, decide_eq_true_iff]

theorem isUndefined_cbInstr (op2 : Byte) : (cbInstr op2).isUndefined = false := by
  obtain ⟨_, hencode⟩ := encode_cbInstr op2
  have hcb : 0xCB#8 ∉ undefinedOpcodes := by decide
  simpa [hcb] using isUndefined_iff_of_encode hencode

/-- Settles O4: the first byte of the instruction's encoding says whether its row is undefined. -/
theorem undefinedOpcodesAreExactlyEleven : Obligations.UndefinedOpcodesAreExactlyEleven := by
  refine ⟨fun op bytes i rest h => ?_, fun op2 bytes => ?_, fun _ => rfl, rfl⟩
  · obtain ⟨op', args, hbytes, hreads⟩ := reads_of_decode h
    obtain ⟨rfl, -⟩ := List.cons.inj hbytes
    obtain ⟨-, hencode⟩ := hreads.encode_eq
    exact isUndefined_iff_of_encode hencode
  · exact ⟨cbInstr op2, rfl, isUndefined_cbInstr op2⟩

/-- Settles O5: each word is computed. -/
theorem specWordsDecode : Obligations.SpecWordsDecode :=
  ⟨rfl, rfl, rfl, rfl, rfl, rfl, rfl, rfl⟩

end Sys2Proof
end

section
/-! PROOFS. What the undefined rows and the rows of the CB page run as. -/

namespace Sys2Proof.Machine

/-! ### The undefined rows -/

theorem exec_of_isUndefined {i : Instr} (h : i.isUndefined = true) (s : State) :
    ∃ op, encode i = [op] ∧ exec i s = .next (s.raiseUndefined op false) := by
  unfold Instr.isUndefined at h
  split at h
  case h_12 => nomatch h
  all_goals exact ⟨_, rfl, rfl⟩

/-- Settles O42: the fault is the row's whole effect, its opcode the row's one byte. -/
theorem undefinedRowsRecordTheFault : Obligations.UndefinedRowsRecordTheFault := by
  intro i s h
  obtain ⟨op, hencode, hexec⟩ := exec_of_isUndefined h s
  exact ⟨op, (isUndefined_iff_of_encode hencode).mp h, hencode, hexec⟩

/-! ### The CB page -/

theorem exec_instrRot (op : RotOp) (o : Operand8) (s : State) :
    exec (instrRot op o) s = .next (s.rotOperand op o) := by
  unfold instrRot; split <;> rfl

theorem exec_instrBit (b : Fin 8) (o : Operand8) (s : State) :
    exec (instrBit b o) s = .next (s.bitOperand b o) := by
  unfold instrBit; split <;> rfl

theorem exec_instrRes (b : Fin 8) (o : Operand8) (s : State) :
    exec (instrRes b o) s = .next (s.resOperand b o) := by
  unfold instrRes; split <;> rfl

theorem exec_instrSet (b : Fin 8) (o : Operand8) (s : State) :
    exec (instrSet b o) s = .next (s.setOperand b o) := by
  unfold instrSet; split <;> rfl

/-- The quarters of the CB page, by the field x (R87). -/
theorem exec_cbInstr (op2 : Byte) (s : State) : exec (cbInstr op2) s = .next (s.cbRow op2) := by
  unfold cbInstr State.cbRow
  generalize xField op2 = x
  match x with
  | 0 => exact exec_instrRot ..
  | 1 => exact exec_instrBit ..
  | 2 => exact exec_instrRes ..
  | 3 => exact exec_instrSet ..

/-- Settles O6: the two bytes decode to the row the second byte selects. -/
theorem prefixRowRunsTheSelectedRow : Obligations.PrefixRowRunsTheSelectedRow := by
  intro op2 i rest s h
  have hcb : decode (encode (.prefix_CB op2) ++ rest) = .ok (cbInstr op2) rest := rfl
  obtain ⟨rfl, -⟩ := DecodeResult.ok.inj (hcb.symm.trans h)
  have hrow : exec (.prefix_CB op2) s = .next (s.cbRow op2) := rfl
  exact ⟨hrow.trans (exec_cbInstr op2 s).symm, _, hrow⟩

end Sys2Proof.Machine
end

section
/-! PROOFS. How the families of loads, stores and stack transfers are encoded (R72 to R74)
and what they run as. -/

namespace Sys2Proof.Machine
open Sys2Proof.Claims

theorem encode_instrLdRR (d r : Reg8) :
    encode (instrLdRR d r) = [0b01000000#8 ||| regCode d <<< 3 ||| regCode r] := by
  cases d <;> cases r <;> rfl

theorem exec_instrLdRR (d r : Reg8) (s : State) :
    exec (instrLdRR d r) s = .next (s.ldRegReg d r) := by
  cases d <;> cases r <;> rfl

theorem encode_instrLdRM (d : Reg8) :
    encode (instrLdRM d) = [0b01000110#8 ||| regCode d <<< 3] := by
  cases d <;> rfl

theorem exec_instrLdRM (d : Reg8) (s : State) :
    exec (instrLdRM d) s = .next (s.ldRegMem d) := by
  cases d <;> rfl

theorem encode_instrLdMR (r : Reg8) :
    encode (instrLdMR r) = [0b01110000#8 ||| regCode r] := by
  cases r <;> rfl

theorem exec_instrLdMR (r : Reg8) (s : State) :
    exec (instrLdMR r) s = .next (s.ldMemReg r) := by
  cases r <;> rfl

theorem encode_instrLdRD8 (d : Reg8) (v : Byte) :
    encode (instrLdRD8 d v) = [0b00000110#8 ||| regCode d <<< 3, v] := by
  cases d <;> rfl

theorem exec_instrLdRD8 (d : Reg8) (v : Byte) (s : State) :
    exec (instrLdRD8 d v) s = .next (s.ldRegImm d v) := by
  cases d <;> rfl

theorem encode_instrLdRrD16 (rr : Reg16) (w : Word) :
    encode (instrLdRrD16 rr w) =
      [0b00000001#8 ||| reg16Code rr <<< 4, loByte w, hiByte w] := by
  cases rr <;> rfl

theorem exec_instrLdRrD16 (rr : Reg16) (w : Word) (s : State) :
    exec (instrLdRrD16 rr w) s = .next (s.ldPairImm rr w) := by
  cases rr <;> rfl

theorem encode_instrPush (rr : StackPair) :
    encode (instrPush rr) = [0b11000101#8 ||| stackCode rr <<< 4] := by
  cases rr <;> rfl

theorem exec_instrPush (rr : StackPair) (s : State) :
    exec (instrPush rr) s = .next (s.pushPair rr) := by
  cases rr <;> rfl

theorem encode_instrPop (rr : StackPair) :
    encode (instrPop rr) = [0b11000001#8 ||| stackCode rr <<< 4] := by
  cases rr <;> rfl

theorem exec_instrPop (rr : StackPair) (s : State) :
    exec (instrPop rr) s = .next (s.popPair rr) := by
  cases rr <;> rfl

end Sys2Proof.Machine
end

section
/-! PROOFS. The loads and the stores (R93 to R112). -/

namespace Sys2Proof.Machine
open Sys2Proof.Claims

/-! ### What the operations leave -/

/-- Two stores leave what `StoresTwo` says, the second over the first (R62, R67). -/
theorem Memory.write_write_storesTwo (m : Memory) (a : Word) (v : Byte) (a' : Word) (v' : Byte) :
    StoresTwo m ((m.write a v).write a' v') a v a' v' := fun h b => by
  rw [Memory.read_write (Memory.write_wf h a v), Memory.read_write h]

theorem State.setReg_finish (s : State) (d : Reg8) (v : Byte) (len cycles : Nat) :
    (s.setReg d v).finish len cycles =
      { s.setReg d v with pc := s.pc + BitVec.ofNat 16 len, result := .ok cycles } := by
  simp [State.finish]

theorem State.setReg16_finish (s : State) (rr : Reg16) (w : Word) (len cycles : Nat) :
    (s.setReg16 rr w).finish len cycles =
      { s.setReg16 rr w with pc := s.pc + BitVec.ofNat 16 len, result := .ok cycles } := by
  simp [State.finish]

/-- Writing a register after a read is writing it, with what the read leaves on the bus. -/
theorem State.afterRead_setReg (s : State) (a : Word) (d : Reg8) (v : Byte) :
    (s.afterRead a).setReg d v =
      { s.setReg d v with
        answers := s.answers.tail, trace := s.trace ++ [.read a (s.busAnswer a)] } := by
  cases d <;> rfl

/-- Everything `ldRegMem` does. -/
theorem State.ldRegMem_eq (s : State) (d : Reg8) :
    s.ldRegMem d =
      { s.setReg d (s.busAnswer s.hl) with
        answers := s.answers.tail
        trace := s.trace ++ [.read s.hl (s.busAnswer s.hl)]
        pc := s.pc + 1#16, result := .ok 8 } := by
  simp [State.ldRegMem, State.afterRead_setReg, State.finish]

/-- Everything `ldAccMemStep` does, for every step, so that the kernel does not compute with -1. -/
theorem State.ldAccMemStep_eq (s : State) (delta : Word) :
    s.ldAccMemStep delta =
      { s with
        a := s.busAnswer s.hl, h := hiByte (s.hl + delta), l := loByte (s.hl + delta)
        answers := s.answers.tail
        trace := s.trace ++ [.read s.hl (s.busAnswer s.hl)]
        pc := s.pc + 1#16, result := .ok 8 } := rfl

/-- Everything `ldMemAccStep` does, for every step. -/
theorem State.ldMemAccStep_eq (s : State) (delta : Word) :
    s.ldMemAccStep delta =
      { s with
        mem := s.mem.write s.hl s.a, h := hiByte (s.hl + delta), l := loByte (s.hl + delta)
        trace := s.trace ++ [.write s.hl s.a]
        pc := s.pc + 1#16, result := .ok 8 } := rfl

theorem highPage_eq_ofNat (n : Byte) : highPage n = BitVec.ofNat 16 (0xFF00 + n.toNat) := by
  rw [← toNat_highPage, BitVec.ofNat_toNat, BitVec.setWidth_eq]

/-- Everything `ldAbsSP` does (R111). -/
theorem State.ldAbsSP_eq (s : State) (w : Word) :
    s.ldAbsSP w =
      { s with
        mem := (s.mem.write w (loByte s.sp)).write (w + 1#16) (hiByte s.sp)
        trace := s.trace ++ [.write w (loByte s.sp), .write (w + 1#16) (hiByte s.sp)]
        pc := s.pc + 3#16, result := .ok 20 } := by
  simp [State.ldAbsSP, State.busWrite16, State.busWrite, State.finish]

/-! ### The instructions -/

/-- Settles O10: the source is read before the destination is written, also where they are one. -/
theorem loadRegister : Obligations.LoadRegister := by
  intro d s
  refine ⟨fun r => ⟨encode_instrLdRR d r, ?_⟩, encode_instrLdRM d, ?_⟩
  · rw [exec_instrLdRR, State.ldRegReg, State.setReg_finish]
  · rw [exec_instrLdRM, State.ldRegMem_eq]

/-- Settles O11: the store is one bus write at HL. -/
theorem storeRegisterToMemoryAtHL : Obligations.StoreRegisterToMemoryAtHL := fun r s =>
  ⟨encode_instrLdMR r, _, exec_instrLdMR r s, s.mem.write_storesByte s.hl (s.reg r)⟩

/-- Settles O12: the two forms of the destination, a register and the byte at HL. -/
theorem loadAndStoreImmediate : Obligations.LoadAndStoreImmediate := by
  intro v s
  refine ⟨fun d => ⟨encode_instrLdRD8 d v, ?_⟩, rfl, _, rfl, s.mem.write_storesByte s.hl v⟩
  rw [exec_instrLdRD8, State.ldRegImm, State.setReg_finish]

/-- Settles O13: the two stepping loads are one operation, at the steps 1 and -1. -/
theorem loadAccumulatorThroughPair : Obligations.LoadAccumulatorThroughPair := by
  intro s
  have hdec : exec .ld_A_mHLdec s = .next (s.ldAccMemStep (-1#16)) := rfl
  refine ⟨⟨rfl, rfl⟩, ⟨rfl, rfl⟩, ⟨rfl, rfl⟩, rfl, ?_⟩
  rw [hdec, State.ldAccMemStep_eq, ← BitVec.sub_eq_add_neg]

/-- Settles O14: the two stepping stores are one operation, at the steps 1 and -1. -/
theorem storeAccumulatorThroughPair : Obligations.StoreAccumulatorThroughPair := by
  intro s
  have hstores (a : Word) := s.mem.write_storesByte a s.a
  have hdec : exec .ld_mHLdec_A s = .next (s.ldMemAccStep (-1#16)) := rfl
  refine ⟨⟨rfl, _, rfl, hstores s.bc⟩, ⟨rfl, _, rfl, hstores s.de⟩,
    ⟨rfl, _, rfl, hstores s.hl⟩, rfl, _, ?_, hstores s.hl⟩
  rw [hdec, State.ldMemAccStep_eq, ← BitVec.sub_eq_add_neg]

/-- Settles O15: both address forms are the high page of R83. -/
theorem highPageTransfers : Obligations.HighPageTransfers := by
  intro n s
  simp only [← highPage_eq_ofNat]
  have hstores (a : Word) := s.mem.write_storesByte a s.a
  exact ⟨⟨rfl, _, rfl, hstores (highPage n)⟩, ⟨rfl, rfl⟩,
    ⟨rfl, _, rfl, hstores (highPage s.c)⟩, rfl, rfl⟩

/-- Settles O16: SP goes out as two bus writes, the low byte first. -/
theorem absoluteTransfers : Obligations.AbsoluteTransfers := by
  intro w s
  refine ⟨⟨rfl, _, rfl, s.mem.write_storesByte w s.a⟩, ⟨rfl, rfl⟩, rfl, _, ?_,
    s.mem.write_write_storesTwo w _ _ _⟩
  have hsp : exec (.ld_ma16_SP w) s = .next (s.ldAbsSP w) := rfl
  rw [hsp, State.ldAbsSP_eq]

/-- Settles O17: the four operands of R73 are one operation. -/
theorem sixteenBitRegisterLoads : Obligations.SixteenBitRegisterLoads := by
  intro w s
  refine ⟨fun rr => ⟨encode_instrLdRrD16 rr w, ?_⟩, rfl, rfl⟩
  rw [exec_instrLdRrD16, State.ldPairImm, State.setReg16_finish]

end Sys2Proof.Machine
end

section
/-! PROOFS. The stack transfers (R113, R114), and a pop after a push. -/

namespace Sys2Proof.Machine
open Sys2Proof.Claims

/-! ### PUSH and POP -/

/-- F's low nibble holds nothing (R35). -/
theorem Flags.toByte_and_lowNibble (f : Flags) : f.toByte &&& 0x0F#8 = 0#8 := by
  obtain ⟨z, n, h, c⟩ := f
  revert z n h c; decide

/-- Everything `pushPair` does (R113). -/
theorem State.pushPair_eq (s : State) (rr : StackPair) :
    s.pushPair rr =
      { s with
        mem := (s.mem.write (s.sp - 1#16) (hiByte (s.stackPair rr))).write
          (s.sp - 2#16) (loByte (s.stackPair rr))
        sp := s.sp - 2#16
        trace := s.trace ++ [.write (s.sp - 1#16) (hiByte (s.stackPair rr)),
          .write (s.sp - 2#16) (loByte (s.stackPair rr))]
        pc := s.pc + 1#16, result := .ok 16 } := by
  rw [State.pushPair, State.push16_eq]; rfl

/-- Settles O18: the pair goes out as `pushPair_eq` says, and F holds no low nibble. -/
theorem pushStoresHighThenLow : Obligations.PushStoresHighThenLow := by
  intro rr s
  refine ⟨encode_instrPush rr, ⟨_, ?_, s.mem.write_write_storesTwo _ _ _ _⟩, ?_⟩
  · rw [exec_instrPush, State.pushPair_eq]
  · simp only [State.stackPair, State.af, loByte_joinBytes, Flags.toByte_and_lowNibble]

/-- Settles O19: pair by pair, the two bytes read are the two halves written. -/
theorem popLoadsLowThenHigh : Obligations.PopLoadsLowThenHigh := by
  intro rr s lo8 hi8
  refine ⟨encode_instrPop rr, ?_⟩
  have hans : s.answers.tail.tail = s.answers.drop 2 := by
    rw [← List.drop_one, ← List.drop_one, List.drop_drop]
  rw [exec_instrPop, State.popPair, State.pop16_eq, hans]
  cases rr <;> simp [State.setStackPair, State.setHL, State.finish, Flags.ofByte, bitAt, lo8, hi8]

/-! ### A pop after a push -/

theorem sub_two_add_one (w : Word) : w - 2#16 + 1#16 = w - 1#16 := by bv_omega

/-- On the plain RAM a pop answers the word that stands at SP, low byte first. -/
theorem State.pop16_of_read {s : State} {w : Word} (hplain : s.PlainRAM)
    (hlo : s.mem.read s.sp = loByte w) (hhi : s.mem.read (s.sp + 1#16) = hiByte w) :
    ∃ trace, s.pop16 = (w, { s with sp := s.sp + 2#16, trace := trace }) := by
  have hans : s.answers = [] := hplain
  have hans' : (s.afterRead s.sp).answers = [] := by simp [hans]
  rw [State.pop16_eq]
  simp only [State.busAnswer_plainRAM hans, State.busAnswer_plainRAM hans', State.afterRead_mem,
    hlo, hhi, joinBytes_hiByte_loByte, hans, List.tail_nil]
  exact ⟨_, rfl⟩

/-- After a push the word stands at SP, its two bytes at different addresses (R113). -/
theorem State.pushPair_read {s : State} (hwf : s.mem.wf) (rr : StackPair) :
    (s.pushPair rr).mem.read (s.sp - 2#16) = loByte (s.stackPair rr) ∧
      (s.pushPair rr).mem.read (s.sp - 1#16) = hiByte (s.stackPair rr) := by
  have hstores := Memory.write_write_storesTwo s.mem (s.sp - 1#16) (hiByte (s.stackPair rr))
    (s.sp - 2#16) (loByte (s.stackPair rr)) hwf
  simp [State.pushPair_eq, hstores]

/-- A pair written with what it holds is unchanged, and the flags with it. -/
theorem State.setStackPair_stackPair (s : State) (rr : StackPair) :
    s.setStackPair rr (s.stackPair rr) = s := by
  cases rr <;> simp [State.setStackPair, State.stackPair, State.setHL, State.bc, State.de, State.hl,
    State.af]

/-- Popping a pair that already holds what stands at SP moves SP and PC and changes no register and
no flag. -/
theorem State.popPair_of_read {s : State} {rr : StackPair} (hplain : s.PlainRAM)
    (hlo : s.mem.read s.sp = loByte (s.stackPair rr))
    (hhi : s.mem.read (s.sp + 1#16) = hiByte (s.stackPair rr)) :
    ∃ trace, s.popPair rr =
      { s with sp := s.sp + 2#16, trace := trace, pc := s.pc + 1#16, result := .ok 12 } := by
  obtain ⟨trace, hpop⟩ := State.pop16_of_read hplain hlo hhi
  have hpair : ({ s with sp := s.sp + 2#16, trace := trace } : State).stackPair rr =
      s.stackPair rr := by cases rr <;> rfl
  rw [State.popPair, hpop, ← hpair, State.setStackPair_stackPair]
  exact ⟨trace, rfl⟩

/-- Settles O20: what the push has left at SP is the pair as it still stands, so the pop puts back
what is there. -/
theorem pushThenPopRestores : Obligations.PushThenPopRestores := by
  intro rr s hwf hplain
  obtain ⟨hlo, hhi⟩ := State.pushPair_read hwf rr
  have hsp : (s.pushPair rr).sp = s.sp - 2#16 := by rw [State.pushPair_eq]
  have hpair : (s.pushPair rr).stackPair rr = s.stackPair rr := by
    rw [State.pushPair_eq]; cases rr <;> rfl
  obtain ⟨trace, hpop⟩ : ∃ trace, (s.pushPair rr).popPair rr = { s.pushPair rr with
      sp := s.sp - 2#16 + 2#16, trace := trace
      pc := (s.pushPair rr).pc + 1#16, result := .ok 12 } := by
    rw [← hsp]
    apply State.popPair_of_read
    · rw [State.pushPair_eq]; exact hplain
    · rw [hsp, hlo, hpair]
    · rw [hsp, sub_two_add_one, hhi, hpair]
  refine ⟨_, _, exec_instrPush rr s, exec_instrPop rr _, ?_⟩
  rw [hpop]
  simp [State.pushPair_eq, add_one_add_one]

end Sys2Proof.Machine
end

section
/-! PROOFS. The results and the flags of the 8-bit operations, read as numbers (R117 to R129). -/

namespace Sys2Proof.Machine
open Sys2Proof.Claims

@[simp] theorem lowNibble_eq_mod (v : Byte) : lowNibble v = v.toNat % 16 := by
  rw [lowNibble, BitVec.toNat_and]
  exact Nat.and_two_pow_sub_one_eq_mod v.toNat 4

theorem byte_ofNat_mod (n : Nat) : BitVec.ofNat 8 (n % 256) = BitVec.ofNat 8 n :=
  BitVec.eq_of_toNat_eq (by simp)

theorem byte_ofNat_eq_zero_iff (n : Nat) : BitVec.ofNat 8 n = 0#8 ↔ n % 256 = 0 := by
  simp [← BitVec.toNat_inj]

theorem byte_ofInt_eq_ofNat (d : Int) : BitVec.ofInt 8 d = BitVec.ofNat 8 (d % 256).toNat := by
  have hlt : (d % 256).toNat < 256 := by omega
  apply BitVec.eq_of_toNat_eq
  rw [BitVec.toNat_ofInt, BitVec.toNat_ofNat]
  exact (Nat.mod_eq_of_lt hlt).symm

/-! ### Sums and differences (R117 to R121) -/

theorem add8_eq_sum8 (a v : Byte) (c : Bool) : add8 a v c = sum8 a.toNat v.toNat c.toNat := by
  simp [add8, sum8, byte_ofNat_mod, beq_eq_decide, byte_ofNat_eq_zero_iff]

/-- The borrows are the same on naturals and on integers. -/
theorem sub8_eq_difference8 (a v : Byte) (c : Bool) :
    sub8 a v c = difference8 a.toNat v.toNat c.toNat := by
  have hz (d : Int) : (d % 256).toNat % 256 = 0 ↔ d % 256 = 0 := by omega
  have hh : a.toNat % 16 < v.toNat % 16 + c.toNat ↔
      (a.toNat : Int) % 16 < (v.toNat : Int) % 16 + c.toNat := by omega
  have hc : a.toNat < v.toNat + c.toNat ↔ (a.toNat : Int) < v.toNat + c.toNat := by omega
  simp only [sub8, difference8, byte_ofInt_eq_ofNat, beq_eq_decide, byte_ofNat_eq_zero_iff,
    lowNibble_eq_mod, hz, hh, hc]

/-! ### Steps by one (R125 to R128) -/

theorem inc8_eq (o : Byte) (f : Flags) :
    inc8 o f =
      (BitVec.ofNat 8 ((o.toNat + 1) % 256),
        { f with
          z := decide ((o.toNat + 1) % 256 = 0), n := false
          h := decide (o.toNat % 16 = 15) }) := by
  simp [inc8, byte_ofNat_mod, beq_eq_decide, byte_ofNat_eq_zero_iff]

/-- Minus one is plus 255 modulo 256. -/
theorem dec8_eq (o : Byte) (f : Flags) :
    dec8 o f =
      (BitVec.ofNat 8 ((o.toNat + 255) % 256),
        { f with
          z := decide (o.toNat = 1), n := true, h := decide (o.toNat % 16 = 0) }) := by
  have ho : o.toNat < 256 := o.isLt
  have hd : (((o.toNat : Int) - 1) % 256).toNat = (o.toNat + 255) % 256 := by omega
  have hz : (o.toNat + 255) % 256 = 0 ↔ o.toNat = 1 := by omega
  simp [dec8, byte_ofInt_eq_ofNat, hd, byte_ofNat_mod, beq_eq_decide, byte_ofNat_eq_zero_iff, hz]

/-! ### Decimal adjust (R129) -/

/-- The two corrections share no bit, so their `or` is their sum. -/
theorem toNat_daaCorrection (high low : Bool) :
    (daaCorrection high low).toNat = (if high then 0x60 else 0) + (if low then 0x06 else 0) := by
  cases high <;> cases low <;> rfl

theorem daaHigh_iff (a : Byte) (f : Flags) :
    daaHigh a f = true ↔ f.c = true ∨ a.toNat > 0x99 := by simp [daaHigh]

theorem daaLow_iff (a : Byte) (f : Flags) :
    daaLow a f = true ↔ f.h = true ∨ a.toNat % 16 > 9 := by simp [daaLow]

theorem daa8_flags (a : Byte) (f : Flags) :
    (daa8 a f).2 =
      { f with
        z := decide ((daa8 a f).1 = 0#8), h := false
        c := if f.n = true then f.c else decide (f.c = true ∨ a.toNat > 0x99) } := by
  cases hn : f.n <;> simp [daa8, hn, beq_eq_decide, daaHigh]

theorem toNat_daa8_of_addition (a : Byte) (f : Flags) (hn : f.n = false) :
    (daa8 a f).1.toNat =
      (a.toNat + (if f.c = true ∨ a.toNat > 0x99 then 0x60 else 0) +
        (if f.h = true ∨ a.toNat % 16 > 9 then 0x06 else 0)) % 256 := by
  simp only [← daaHigh_iff, ← daaLow_iff, Nat.add_assoc, ← toNat_daaCorrection]
  simp [daa8, hn]

theorem toNat_daa8_of_subtraction (a : Byte) (f : Flags) (hn : f.n = true) :
    ((daa8 a f).1.toNat : Int) =
      ((a.toNat : Int) - (if f.c = true then 0x60 else 0) - (if f.h = true then 0x06 else 0)) %
        256 := by
  have hcorr : ((daaCorrection f.c f.h).toNat : Int) =
      (if f.c = true then 0x60 else 0) + (if f.h = true then 0x06 else 0) := by
    simp [toNat_daaCorrection]
  rw [Int.sub_sub, ← hcorr]
  simp only [daa8, hn, if_true, BitVec.toNat_ofInt]
  omega

end Sys2Proof.Machine
end

section
/-! PROOFS. The 8-bit arithmetic and logic (R115 to R132). -/

namespace Sys2Proof.Machine
open Sys2Proof.Claims

/-! ### How the families are encoded and what they run as -/

theorem encode_instrAlu_reg (op : AluOp) (r : Reg8) :
    encode (instrAlu op (.reg r)) = [0b10000000#8 ||| aluCode op <<< 3 ||| regCode r] := by
  cases op <;> cases r <;> rfl

theorem encode_instrAlu_mHL (op : AluOp) :
    encode (instrAlu op .mHL) = [0b10000110#8 ||| aluCode op <<< 3] := by
  cases op <;> rfl

theorem encode_instrAluD8 (op : AluOp) (v : Byte) :
    encode (instrAluD8 op v) = [0b11000110#8 ||| aluCode op <<< 3, v] := by
  cases op <;> rfl

theorem exec_instrAlu (op : AluOp) (o : Operand8) (s : State) :
    exec (instrAlu op o) s = .next (s.aluOperand op o) := by
  unfold instrAlu; split <;> rfl

theorem exec_instrAluD8 (op : AluOp) (v : Byte) (s : State) :
    exec (instrAluD8 op v) s = .next (s.aluImm op v) := by
  cases op <;> rfl

theorem encode_instrInc_reg (r : Reg8) :
    encode (instrInc (.reg r)) = [0b00000100#8 ||| regCode r <<< 3] := by
  cases r <;> rfl

theorem exec_instrInc_reg (r : Reg8) (s : State) :
    exec (instrInc (.reg r)) s = .next (s.incReg r) := by
  cases r <;> rfl

theorem exec_instrInc_mHL (s : State) : exec (instrInc .mHL) s = .next s.incMem := rfl

theorem encode_instrDec_reg (r : Reg8) :
    encode (instrDec (.reg r)) = [0b00000101#8 ||| regCode r <<< 3] := by
  cases r <;> rfl

theorem exec_instrDec_reg (r : Reg8) (s : State) :
    exec (instrDec (.reg r)) s = .next (s.decReg r) := by
  cases r <;> rfl

theorem exec_instrDec_mHL (s : State) : exec (instrDec .mHL) s = .next s.decMem := rfl

/-! ### The operations on A and an operand (R117 to R124) -/

/-- The three forms of R116 differ in how they find the operand and in their length and cycles, so a
description of `aluResult` is a description of all three. -/
theorem aluRuns_of_aluResult_eq {op : AluOp} {f : State → Byte → Byte × Flags}
    (hf : ∀ s v, aluResult op s.a v s.flags = f s v) : AluRuns op f := by
  intro s
  simp only [← hf]
  refine ⟨fun r => ⟨encode_instrAlu_reg op r, ?_⟩, ⟨encode_instrAlu_mHL op, ?_⟩,
    fun v => ⟨encode_instrAluD8 op v, ?_⟩⟩
  · rw [exec_instrAlu]; rfl
  · rw [exec_instrAlu]; rfl
  · rw [exec_instrAluD8]; rfl

/-- Settles O21: both are `add8`, with no carry or with C. -/
theorem addAndAddWithCarry : Obligations.AddAndAddWithCarry :=
  ⟨aluRuns_of_aluResult_eq fun s v => add8_eq_sum8 s.a v false,
    aluRuns_of_aluResult_eq fun s v => add8_eq_sum8 s.a v s.flags.c⟩

/-- Settles O22: all three are `sub8`, with no borrow or with C; CP takes its flags only. -/
theorem subtractAndCompare : Obligations.SubtractAndCompare :=
  ⟨aluRuns_of_aluResult_eq fun s v => sub8_eq_difference8 s.a v false,
    aluRuns_of_aluResult_eq fun s v => sub8_eq_difference8 s.a v s.flags.c,
    aluRuns_of_aluResult_eq fun s v =>
      congrArg (fun r => (s.a, r.2)) (sub8_eq_difference8 s.a v false)⟩

/-- Settles O23: the three results are the operations of `aluResult` themselves. -/
theorem bitwiseLogic : Obligations.BitwiseLogic :=
  ⟨aluRuns_of_aluResult_eq fun _ _ => rfl, aluRuns_of_aluResult_eq fun _ _ => rfl,
    aluRuns_of_aluResult_eq fun _ _ => rfl⟩

/-! ### Steps by one (R125 to R128) -/

/-- Flags and a register are written in either order. -/
theorem State.withFlags_setReg_finish (s : State) (f : Flags) (r : Reg8) (v : Byte)
    (len cycles : Nat) :
    (({ s with flags := f } : State).setReg r v).finish len cycles =
      { s.setReg r v with
        flags := f, pc := s.pc + BitVec.ofNat 16 len, result := .ok cycles } := by
  cases r <;> rfl

/-- The read and the write at HL of an instruction that replaces the byte there. -/
theorem State.afterRead_withFlags_busWrite_finish (s : State) (f : Flags) (v : Byte)
    (len cycles : Nat) :
    (({ s.afterRead s.hl with flags := f } : State).busWrite s.hl v).finish len cycles =
      { s with
        mem := s.mem.write s.hl v
        flags := f
        answers := s.answers.tail
        trace := s.trace ++ [.read s.hl (s.busAnswer s.hl), .write s.hl v]
        pc := s.pc + BitVec.ofNat 16 len, result := .ok cycles } := by
  simp [State.busWrite, State.finish]

/-- Settles O24: `inc8` on numbers, in a register and at HL. -/
theorem incrementByte : Obligations.IncrementByte := by
  intro s
  refine ⟨fun r => ⟨encode_instrInc_reg r, ?_⟩, rfl, _, ?_, s.mem.write_storesByte s.hl _⟩
  · rw [exec_instrInc_reg, State.incReg, State.withFlags_setReg_finish, inc8_eq]
  · simp only [exec_instrInc_mHL, State.incMem, State.busRead_eq,
      State.afterRead_withFlags_busWrite_finish, inc8_eq]

/-- Settles O25: `dec8` on numbers, in a register and at HL. -/
theorem decrementByte : Obligations.DecrementByte := by
  intro s
  refine ⟨fun r => ⟨encode_instrDec_reg r, ?_⟩, rfl, _, ?_, s.mem.write_storesByte s.hl _⟩
  · rw [exec_instrDec_reg, State.decReg, State.withFlags_setReg_finish, dec8_eq]
  · simp only [exec_instrDec_mHL, State.decMem, State.busRead_eq,
      State.afterRead_withFlags_busWrite_finish, dec8_eq]

/-! ### DAA, CPL, SCF and CCF (R129 to R132) -/

/-- Settles O26: the result by N, the flags for both. -/
theorem decimalAdjust : Obligations.DecimalAdjust := by
  intro s a high low
  have hexec : exec .daa s =
      .next { s with
        a := (daa8 s.a s.flags).1, flags := (daa8 s.a s.flags).2
        pc := s.pc + 1#16, result := .ok 4 } := rfl
  rw [daa8_flags] at hexec
  exact ⟨rfl, _, hexec, toNat_daa8_of_addition s.a s.flags, toNat_daa8_of_subtraction s.a s.flags⟩

theorem complement_eq_ofNat_sub (v : Byte) : ~~~v = BitVec.ofNat 8 (0xFF - v.toNat) := by
  have hv : v.toNat < 256 := v.isLt
  apply BitVec.eq_of_toNat_eq
  rw [BitVec.toNat_not, BitVec.toNat_ofNat]
  omega

/-- Settles O28: only the complement of A needs its number. -/
theorem complementAndCarryOperations : Obligations.ComplementAndCarryOperations := by
  intro s
  refine ⟨⟨rfl, ?_⟩, ⟨rfl, rfl⟩, rfl, rfl⟩
  rw [← complement_eq_ofNat_sub]
  rfl

end Sys2Proof.Machine
end

section
/-! PROOFS. DAA after ADC adds packed BCD numbers in decimal (derived from R118 and R129). -/

namespace Sys2Proof.Machine
open Sys2Proof.Claims

theorem toNat_bcd {n : Nat} (hn : n < 100) : (bcd n).toNat = n / 10 * 16 + n % 10 := by
  rw [bcd, BitVec.toNat_ofNat]
  omega

theorem bcd_eq_of_toNat {v : Byte} {n : Nat} (hn : n < 100)
    (hv : v.toNat = n / 10 * 16 + n % 10) : v = bcd n :=
  BitVec.eq_of_toNat_eq (hv.trans (toNat_bcd hn).symm)

theorem bcd_eq_zero_iff {n : Nat} (hn : n < 100) : bcd n = 0#8 ↔ n = 0 := by
  rw [← BitVec.toNat_inj, toNat_bcd hn, BitVec.toNat_ofNat]
  omega

/-- The binary sum of two packed BCD numbers and a carry. -/
def bcdSum (x y c : Nat) : Nat := x / 10 * 16 + x % 10 + (y / 10 * 16 + y % 10) + c

/-- DAA corrects the low digit exactly when the units carry: H says so from 16 on, the digit itself
from 10 to 15. -/
theorem lowCorrection_iff {x y c : Nat} (hc : c ≤ 1) :
    ((x / 10 * 16 + x % 10) % 16 + (y / 10 * 16 + y % 10) % 16 + c > 15 ∨
      bcdSum x y c % 256 % 16 > 9) ↔ x % 10 + y % 10 + c ≥ 10 := by
  unfold bcdSum
  omega

/-- DAA corrects the high digit exactly when the decimal sum overflows. The units decide only where
the tens add up to 9. -/
theorem highCorrection_iff {x y c : Nat} (hc : c ≤ 1) :
    (bcdSum x y c > 255 ∨ bcdSum x y c % 256 > 0x99) ↔ x + y + c ≥ 100 := by
  have hwide : (bcdSum x y c > 255 ∨ bcdSum x y c % 256 > 0x99) ↔ bcdSum x y c > 0x99 := by
    omega
  rw [hwide, bcdSum]
  obtain hlt | heq | hgt := Nat.lt_trichotomy (x / 10 + y / 10) 9 <;> omega

/-- With both corrections the binary sum has become the packed decimal one. -/
theorem corrected_bcdSum {x y c : Nat} (hx : x < 100) (hy : y < 100) (hc : c ≤ 1) :
    (bcdSum x y c % 256 + (if x + y + c ≥ 100 then 0x60 else 0) +
      (if x % 10 + y % 10 + c ≥ 10 then 0x06 else 0)) % 256 =
    (x + y + c) % 100 / 10 * 16 + (x + y + c) % 100 % 10 := by
  unfold bcdSum
  split <;> split <;> omega

/-- The sum DAA starts from, and what it is told by N, H and C. -/
theorem add8_bcd {x y : Nat} (hx : x < 100) (hy : y < 100) (c : Bool) :
    (add8 (bcd x) (bcd y) c).1.toNat = bcdSum x y c.toNat % 256 ∧
    (add8 (bcd x) (bcd y) c).2.n = false ∧
    ((add8 (bcd x) (bcd y) c).2.h = true ↔
      (x / 10 * 16 + x % 10) % 16 + (y / 10 * 16 + y % 10) % 16 + c.toNat > 15) ∧
    ((add8 (bcd x) (bcd y) c).2.c = true ↔ bcdSum x y c.toNat > 255) := by
  simp [add8_eq_sum8, sum8, toNat_bcd, hx, hy, bcdSum]

/-- DAA's two conditions, read after the addition, are the decimal carries. -/
theorem daa8_add8_bcd {x y : Nat} (hx : x < 100) (hy : y < 100) (c : Bool) :
    let r := add8 (bcd x) (bcd y) c
    (daa8 r.1 r.2).1 = bcd ((x + y + c.toNat) % 100) ∧
    (daa8 r.1 r.2).2.c = decide (x + y + c.toNat ≥ 100) ∧
    (daa8 r.1 r.2).2.z = decide ((x + y + c.toNat) % 100 = 0) := by
  intro r
  have hc : c.toNat ≤ 1 := c.toNat_le
  have hlt : (x + y + c.toNat) % 100 < 100 := Nat.mod_lt _ (by decide)
  obtain ⟨ha, hN, hH, hC⟩ := add8_bcd hx hy c
  have hresult : (daa8 r.1 r.2).1 = bcd ((x + y + c.toNat) % 100) := by
    apply bcd_eq_of_toNat hlt
    rw [toNat_daa8_of_addition _ _ hN, ← corrected_bcdSum hx hy hc]
    simp only [r, ha, hH, hC, lowCorrection_iff hc, highCorrection_iff hc]
  refine ⟨hresult, ?_, ?_⟩
  · simp only [daa8_flags, r, ha, hN, hC, highCorrection_iff hc, if_neg Bool.false_ne_true]
  · simp only [daa8_flags, hresult, bcd_eq_zero_iff hlt]

/-- Settles O27: ADC is `add8` with C, and DAA is `daa8` on what it leaves. -/
theorem decimalAdditionIsDecimal : Obligations.DecimalAdditionIsDecimal := by
  intro x y s hx hy ha
  have hdaa := daa8_add8_bcd hx hy s.flags.c
  rw [← ha] at hdaa
  exact ⟨s.aluImm .adc (bcd y), (s.aluImm .adc (bcd y)).daa, rfl, rfl, hdaa⟩

end Sys2Proof.Machine
end

section
/-! PROOFS. The results and the flags of the 16-bit operations, read as numbers (R133 to R137). -/

namespace Sys2Proof.Machine

theorem word_ofNat_mod (n : Nat) : BitVec.ofNat 16 (n % 65536) = BitVec.ofNat 16 n :=
  BitVec.eq_of_toNat_eq (by simp)

/-- Masking with k ones keeps the low k bits, the part of the operands that carries into H or C. -/
theorem toNat_and_lowMask (w : Word) {m : Word} (k : Nat) (hm : m.toNat = 2 ^ k - 1) :
    (w &&& m).toNat = w.toNat % 2 ^ k := by
  rw [BitVec.toNat_and, hm, Nat.and_two_pow_sub_one_eq_mod]

theorem add16_eq (h v : Word) (f : Flags) :
    add16 h v f =
      (BitVec.ofNat 16 ((h.toNat + v.toNat) % 65536),
        { f with
          n := false, h := decide (h.toNat % 4096 + v.toNat % 4096 > 4095)
          c := decide (h.toNat + v.toNat > 65535) }) := by
  have hlow (w : Word) : (w &&& 0x0FFF#16).toNat = w.toNat % 4096 := toNat_and_lowMask w 12 rfl
  simp only [add16, word_ofNat_mod, hlow]

theorem word_add_one_eq_ofNat (w : Word) : w + 1#16 = BitVec.ofNat 16 ((w.toNat + 1) % 65536) := by
  apply BitVec.eq_of_toNat_eq
  rw [BitVec.toNat_add, word_ofNat_mod, BitVec.toNat_ofNat, BitVec.toNat_ofNat]

/-- Minus one is plus 65535 modulo 65536. -/
theorem word_sub_one_eq_ofNat (w : Word) :
    w - 1#16 = BitVec.ofNat 16 ((w.toNat + 65535) % 65536) := by
  apply BitVec.eq_of_toNat_eq
  rw [BitVec.toNat_sub, word_ofNat_mod, BitVec.toNat_ofNat, BitVec.toNat_ofNat]
  omega

/-- Adding the sign-extended byte is adding its signed value modulo 65536. -/
theorem add_sext16_eq_ofInt (w : Word) (e : Byte) :
    w + sext16 e = BitVec.ofInt 16 ((w.toNat : Int) + e.toInt) := by
  rw [BitVec.ofInt_add, BitVec.ofInt_natCast, BitVec.ofNat_toNat, BitVec.setWidth_eq]
  rfl

theorem addDisplacement_eq (sp : Word) (e : Byte) :
    addDisplacement sp e =
      (BitVec.ofInt 16 ((sp.toNat : Int) + e.toInt),
        { z := false, n := false
          h := decide (sp.toNat % 16 + e.toNat % 16 > 15)
          c := decide (sp.toNat % 256 + e.toNat > 255) }) := by
  have hnibble : (sp &&& 0x000F#16).toNat = sp.toNat % 16 := toNat_and_lowMask sp 4 rfl
  have hbyte : (sp &&& 0x00FF#16).toNat = sp.toNat % 256 := toNat_and_lowMask sp 8 rfl
  simp only [addDisplacement, add_sext16_eq_ofInt, lowNibble_eq_mod, hnibble, hbyte]

end Sys2Proof.Machine
end

section
/-! PROOFS. The 16-bit arithmetic (R133 to R137). -/

namespace Sys2Proof.Machine
open Sys2Proof.Claims

/-! ### How the families are encoded and what they run as -/

theorem encode_instrAddHL (rr : Reg16) :
    encode (instrAddHL rr) = [0b00001001#8 ||| reg16Code rr <<< 4] := by
  cases rr <;> rfl

theorem exec_instrAddHL (rr : Reg16) (s : State) :
    exec (instrAddHL rr) s = .next (s.addHL rr) := by
  cases rr <;> rfl

theorem encode_instrIncRr (rr : Reg16) :
    encode (instrIncRr rr) = [0b00000011#8 ||| reg16Code rr <<< 4] := by
  cases rr <;> rfl

theorem exec_instrIncRr (rr : Reg16) (s : State) :
    exec (instrIncRr rr) s = .next (s.incPair rr) := by
  cases rr <;> rfl

theorem encode_instrDecRr (rr : Reg16) :
    encode (instrDecRr rr) = [0b00001011#8 ||| reg16Code rr <<< 4] := by
  cases rr <;> rfl

theorem exec_instrDecRr (rr : Reg16) (s : State) :
    exec (instrDecRr rr) s = .next (s.decPair rr) := by
  cases rr <;> rfl

theorem exec_add_SP_e8 (e : Byte) (s : State) : exec (.add_SP_e8 e) s = .next (s.addSP e) := rfl

theorem exec_ld_HL_SPe8 (e : Byte) (s : State) :
    exec (.ld_HL_SPe8 e) s = .next (s.ldHLSP e) := rfl

/-! ### The instructions -/

/-- What the two instructions leave that write HL and the flags (R133, R137). -/
theorem State.withFlags_setHL_finish (s : State) (f : Flags) (w : Word) (len cycles : Nat) :
    (({ s with flags := f } : State).setHL w).finish len cycles =
      { s.setReg16 .HL w with
        flags := f, pc := s.pc + BitVec.ofNat 16 len, result := .ok cycles } := rfl

/-- Settles O29: `add16` on numbers, for each operand of R73. -/
theorem addToHL : Obligations.AddToHL := by
  intro rr s
  refine ⟨encode_instrAddHL rr, ?_⟩
  rw [exec_instrAddHL, State.addHL, State.withFlags_setHL_finish, add16_eq]

/-- Settles O30: the two steps on numbers, the operand read and written back as one of R73. -/
theorem incrementAndDecrementPair : Obligations.IncrementAndDecrementPair := by
  intro rr s
  refine ⟨⟨encode_instrIncRr rr, ?_⟩, encode_instrDecRr rr, ?_⟩
  · rw [exec_instrIncRr, State.incPair, State.setReg16_finish, word_add_one_eq_ofNat]
  · rw [exec_instrDecRr, State.decPair, State.setReg16_finish, word_sub_one_eq_ofNat]

/-- Settles O31: both write what `addDisplacement` answers, to SP or to HL. -/
theorem stackPointerPlusDisplacement : Obligations.StackPointerPlusDisplacement := by
  intro e s r f
  have hdisp : addDisplacement s.sp e = (r, f) := addDisplacement_eq s.sp e
  refine ⟨⟨rfl, ?_⟩, rfl, ?_⟩
  · rw [exec_add_SP_e8, State.addSP, hdisp, State.finish]
  · rw [exec_ld_HL_SPe8, State.ldHLSP, State.withFlags_setHL_finish, hdisp]

end Sys2Proof.Machine
end

section
/-! PROOFS. The results and the carries of the rotates, the shifts and the nibble swap, read as
numbers (R138 to R150). -/

namespace Sys2Proof.Machine
open Sys2Proof.Claims

theorem toNat_byte_shiftLeft (v : Byte) (k : Nat) : (v <<< k).toNat = v.toNat * 2 ^ k % 256 := by
  rw [BitVec.toNat_shiftLeft, Nat.shiftLeft_eq]

theorem toNat_byte_shiftRight (v : Byte) (k : Nat) : (v >>> k).toNat = v.toNat / 2 ^ k := by
  rw [BitVec.toNat_ushiftRight, Nat.shiftRight_eq_div_pow]

/-- A multiple of 2^k and a number below it share no bit, so their `or` is their sum. -/
theorem toNat_or_eq_add {x y : Byte} {a : Nat} (k : Nat) (hx : x.toNat = a * 2 ^ k)
    (hy : y.toNat < 2 ^ k) : (x ||| y).toNat = x.toNat + y.toNat := by
  rw [BitVec.toNat_or, hx, ← Nat.shiftLeft_eq, Nat.shiftLeft_add_eq_or_of_lt hy]

theorem toNat_boolByte (b : Bool) : (boolByte b).toNat = b.toNat := by
  cases b <;> rfl

theorem toNat_boolByte_shiftLeft_seven (b : Bool) : (boolByte b <<< 7).toNat = b.toNat * 128 := by
  cases b <;> rfl

theorem bitAt_zero (v : Byte) : bitAt v 0 = decide (v.toNat % 2 = 1) := Nat.testBit_zero v.toNat

theorem bitAt_seven (v : Byte) : bitAt v 7 = decide (v.toNat ≥ 128) :=
  (BitVec.msb_eq_getLsbD_last v).symm.trans (BitVec.msb_eq_decide v)

theorem toNat_bitAt_zero (v : Byte) : (bitAt v 0).toNat = v.toNat % 2 := by
  have hbit : (bitAt v 0).toNat = v.toNat / 2 ^ 0 % 2 := Nat.toNat_testBit v.toNat 0
  omega

theorem toNat_bitAt_seven (v : Byte) : (bitAt v 7).toNat = v.toNat / 128 := by
  have hv : v.toNat < 256 := v.isLt
  have hbit : (bitAt v 7).toNat = v.toNat / 2 ^ 7 % 2 := Nat.toNat_testBit v.toNat 7
  omega

/-- To the left, the bit that enters is bit 0. -/
theorem toNat_shiftLeft_or_boolByte (v : Byte) (b : Bool) :
    (v <<< 1 ||| boolByte b).toNat = v.toNat * 2 % 256 + b.toNat := by
  have hb : b.toNat < 2 := b.toNat_lt
  have hhigh : (v <<< 1).toNat = v.toNat * 2 % 256 := toNat_byte_shiftLeft v 1
  rw [toNat_or_eq_add (a := v.toNat % 128) 1 (by omega) (by rwa [toNat_boolByte]), hhigh,
    toNat_boolByte]

/-- To the right, the bit that enters is bit 7. -/
theorem toNat_shiftRight_or_boolByte (v : Byte) (b : Bool) :
    (v >>> 1 ||| boolByte b <<< 7).toNat = v.toNat / 2 + b.toNat * 128 := by
  have hv : v.toNat < 256 := v.isLt
  have hlow : (v >>> 1).toNat = v.toNat / 2 := toNat_byte_shiftRight v 1
  rw [BitVec.or_comm, toNat_or_eq_add 7 (toNat_boolByte_shiftLeft_seven b) (by omega), hlow,
    toNat_boolByte_shiftLeft_seven, Nat.add_comm]

/-- SRA keeps bit 7, so it is a shift to the right that bit 7 enters. -/
theorem and_0x80_eq_boolByte (v : Byte) : v &&& 0x80#8 = boolByte (bitAt v 7) <<< 7 := by
  apply BitVec.eq_of_toNat_eq
  rw [BitVec.toNat_and, toNat_boolByte_shiftLeft_seven]
  exact Nat.and_two_pow v.toNat 7

/-- SWAP puts each nibble in the other's place (R149). -/
theorem toNat_swap (v : Byte) :
    ((v &&& 0x0F#8) <<< 4 ||| v >>> 4).toNat = v.toNat % 16 * 16 + v.toNat / 16 := by
  have hv : v.toNat < 256 := v.isLt
  have hlow : (v &&& 0x0F#8).toNat = v.toNat % 16 := lowNibble_eq_mod v
  have hleft : ((v &&& 0x0F#8) <<< 4).toNat = v.toNat % 16 * 16 := by
    rw [toNat_byte_shiftLeft, hlow]; omega
  have hright : (v >>> 4).toNat = v.toNat / 16 := toNat_byte_shiftRight v 4
  rw [toNat_or_eq_add 4 hleft (by omega), hleft, hright]

theorem toNat_rotResult (op : RotOp) (v : Byte) (c : Bool) :
    (rotResult op v c).1.toNat = (rotNumber op v.toNat c.toNat).1 := by
  cases op with
  | rlc => rw [rotResult, toNat_shiftLeft_or_boolByte, toNat_bitAt_seven, rotNumber]
  | rrc => rw [rotResult, toNat_shiftRight_or_boolByte, toNat_bitAt_zero, rotNumber]
  | rl => exact toNat_shiftLeft_or_boolByte v c
  | rr => exact toNat_shiftRight_or_boolByte v c
  | sla => exact toNat_byte_shiftLeft v 1
  | sra =>
    rw [rotResult, and_0x80_eq_boolByte, toNat_shiftRight_or_boolByte, toNat_bitAt_seven, rotNumber]
  | swap => exact toNat_swap v
  | srl => exact toNat_byte_shiftRight v 1

/-- To the left bit 7 leaves, to the right bit 0, from SWAP none. -/
theorem rotResult_carry (op : RotOp) (v : Byte) (c : Bool) :
    (rotResult op v c).2 = (rotNumber op v.toNat c.toNat).2 := by
  cases op with
  | rlc | rl | sla => exact bitAt_seven v
  | rrc | rr | sra | srl => exact bitAt_zero v
  | swap => rfl

theorem rotResult_eq (op : RotOp) (v : Byte) (c : Bool) :
    rotResult op v c =
      (BitVec.ofNat 8 (rotNumber op v.toNat c.toNat).1, (rotNumber op v.toNat c.toNat).2) := by
  rw [← toNat_rotResult, ← rotResult_carry, BitVec.ofNat_toNat, BitVec.setWidth_eq]

theorem rotFlags_rotResult (op : RotOp) (v : Byte) (c : Bool) :
    rotFlags (rotResult op v c) =
      ⟨decide ((rotNumber op v.toNat c.toNat).1 = 0), false, false,
        (rotNumber op v.toNat c.toNat).2⟩ := by
  have hz : ((rotResult op v c).1 == 0#8) = decide ((rotNumber op v.toNat c.toNat).1 = 0) := by
    rw [← toNat_rotResult, beq_eq_decide]
    exact decide_eq_decide.mpr BitVec.toNat_inj.symm
  rw [rotFlags, hz, rotResult_carry]

end Sys2Proof.Machine
end

section
/-! PROOFS. The rotates, the shifts and the nibble swap (R138 to R150). -/

namespace Sys2Proof.Machine
open Sys2Proof.Claims

theorem encode_instrRot (op : RotOp) (o : Operand8) :
    encode (instrRot op o) = [0xCB#8, rotCode op <<< 3 ||| operandCode o] := by
  unfold instrRot; split <;> rfl

/-- What writes its operand back in both forms of R142 is described by `CbWrites`. -/
theorem cbWrites_of_exec {mk : Operand8 → Instr} {op2 : Byte} {f : State → Byte → Byte × Flags}
    (hencode : ∀ o, encode (mk o) = [0xCB#8, op2 ||| operandCode o])
    (hreg : ∀ s r, exec (mk (.reg r)) s =
      .next ((({ s with flags := (f s (s.reg r)).2 } : State).setReg r
        (f s (s.reg r)).1).finish 2 8))
    (hmem : ∀ s, exec (mk .mHL) s =
      .next ((({ s.afterRead s.hl with flags := (f s (s.busAnswer s.hl)).2 } : State).busWrite s.hl
        (f s (s.busAnswer s.hl)).1).finish 2 16)) :
    CbWrites mk op2 f := by
  intro s
  refine ⟨fun r => ⟨hencode (.reg r), ?_⟩, hencode .mHL, _, ?_, s.mem.write_storesByte s.hl _⟩
  · rw [hreg, State.withFlags_setReg_finish]
  · rw [hmem, State.afterRead_withFlags_busWrite_finish]

/-- Settles O33: `rotResult` on numbers, in a register and at HL. -/
theorem prefixedRotatesAndShifts : Obligations.PrefixedRotatesAndShifts := by
  intro k
  refine cbWrites_of_exec (encode_instrRot k) (fun s r => ?_) fun s => ?_ <;>
    (rw [exec_instrRot, State.rotOperand, rotFlags_rotResult, rotResult_eq]; rfl)

/-- RLCA, RLA, RRCA and RRA are `rotResult` on A with Z clear (R138 to R141). -/
theorem State.rotAcc_eq (s : State) (op : RotOp) :
    s.rotAcc op =
      { s with
        a := BitVec.ofNat 8 (rotNumber op s.a.toNat s.flags.c.toNat).1
        flags := ⟨false, false, false, (rotNumber op s.a.toNat s.flags.c.toNat).2⟩
        pc := s.pc + 1#16, result := .ok 4 } := by
  rw [State.rotAcc, rotResult_eq]
  rfl

/-- Settles O32: the four rows are one operation. -/
theorem accumulatorRotates : Obligations.AccumulatorRotates := by
  intro s runs
  have hrun (op : RotOp) {i : Instr} (h : exec i s = .next (s.rotAcc op)) :=
    h.trans (congrArg _ (s.rotAcc_eq op))
  exact ⟨⟨rfl, hrun .rlc rfl⟩, ⟨rfl, hrun .rl rfl⟩, ⟨rfl, hrun .rrc rfl⟩, rfl, hrun .rr rfl⟩

end Sys2Proof.Machine
end

section
/-! PROOFS. Single-bit test, reset and set (R151 to R153). -/

namespace Sys2Proof.Machine
open Sys2Proof.Claims

/-! ### The bit on numbers -/

theorem bitMask_eq_ofNat (b : Fin 8) : 1#8 <<< b.val = BitVec.ofNat 8 (2 ^ b.val) := by
  revert b; decide

theorem toNat_and_bitMask (v : Byte) (b : Fin 8) :
    (v &&& 1#8 <<< b.val).toNat = if v.toNat.testBit b.val then 2 ^ b.val else 0 := by
  have hb : 2 ^ b.val < 2 ^ 8 := Nat.pow_lt_pow_right (by decide) b.isLt
  rw [bitMask_eq_ofNat, BitVec.toNat_and, BitVec.toNat_ofNat, Nat.mod_eq_of_lt hb, Nat.and_two_pow]
  cases v.toNat.testBit b.val <;> simp

/-- What RES keeps and the bit it clears share no bit and together are the byte. -/
theorem resBit_add_and_bitMask (v : Byte) (b : Fin 8) : resBit v b + (v &&& 1#8 <<< b.val) = v := by
  unfold resBit
  generalize 1#8 <<< b.val = m
  rw [BitVec.add_eq_or_of_and_eq_zero]
  · ext i hi; cases h : v[i] <;> simp [h]
  · ext i hi; cases h : v[i] <;> simp [h]

/-- SET is RES and then the bit added. -/
theorem setBit_eq_resBit_add (v : Byte) (b : Fin 8) : setBit v b = resBit v b + 1#8 <<< b.val := by
  unfold setBit resBit
  generalize 1#8 <<< b.val = m
  rw [BitVec.add_eq_or_of_and_eq_zero]
  · ext i hi; cases h : m[i] <;> simp [h]
  · ext i hi; cases h : m[i] <;> simp [h]

theorem resBit_eq (v : Byte) (b : Fin 8) :
    resBit v b =
      BitVec.ofNat 8 (v.toNat - if v.toNat.testBit b.val then 2 ^ b.val else 0) := by
  have hle : (v &&& 1#8 <<< b.val).toNat ≤ v.toNat := Nat.and_le_left
  rw [← toNat_and_bitMask, ← BitVec.ofNat_sub_ofNat_of_le _ _ (BitVec.isLt _) hle,
    BitVec.ofNat_toNat, BitVec.ofNat_toNat, BitVec.setWidth_eq, BitVec.setWidth_eq]
  exact BitVec.eq_sub_iff_add_eq.mpr (resBit_add_and_bitMask v b)

theorem setBit_eq (v : Byte) (b : Fin 8) :
    setBit v b =
      BitVec.ofNat 8 (v.toNat + if v.toNat.testBit b.val then 0 else 2 ^ b.val) := by
  rw [setBit_eq_resBit_add, resBit_eq, bitMask_eq_ofNat, ← BitVec.ofNat_add]
  cases hbit : v.toNat.testBit b.val with
  | true => simp [Nat.sub_add_cancel (Nat.ge_two_pow_of_testBit hbit)]
  | false => rfl

/-! ### The instructions -/

theorem encode_instrBit (b : Fin 8) (o : Operand8) :
    encode (instrBit b o) =
      [0xCB#8, BitVec.ofNat 8 (0x40 + 8 * b.val + (operandCode o).toNat)] := by
  unfold instrBit; split <;> rfl

theorem encode_instrRes (b : Fin 8) (o : Operand8) :
    encode (instrRes b o) = [0xCB#8, BitVec.ofNat 8 (0x80 + 8 * b.val) ||| operandCode o] := by
  unfold instrRes; split <;> rfl

theorem encode_instrSet (b : Fin 8) (o : Operand8) :
    encode (instrSet b o) = [0xCB#8, BitVec.ofNat 8 (0xC0 + 8 * b.val) ||| operandCode o] := by
  unfold instrSet; split <;> rfl

/-- Settles O34: the operand is read, and `bitFlags` is the only thing made of it. -/
theorem bitTestsAndWritesNothingBack : Obligations.BitTestsAndWritesNothingBack := fun b s =>
  ⟨fun r => ⟨encode_instrBit b (.reg r), exec_instrBit b (.reg r) s⟩,
    encode_instrBit b .mHL, exec_instrBit b .mHL s⟩

/-- Settles O35: `resBit` and `setBit` on numbers, in a register and at HL. -/
theorem resetAndSetBit : Obligations.ResetAndSetBit := by
  intro b
  constructor
  · refine cbWrites_of_exec (encode_instrRes b) (fun s r => ?_) fun s => ?_ <;>
      (rw [exec_instrRes, State.resOperand, ← resBit_eq]; rfl)
  · refine cbWrites_of_exec (encode_instrSet b) (fun s r => ?_) fun s => ?_ <;>
      (rw [exec_instrSet, State.setOperand, ← setBit_eq]; rfl)

end Sys2Proof.Machine
end

section
/-! PROOFS. Control transfer (R154 to R167). -/

namespace Sys2Proof.Machine
open Sys2Proof.Claims

/-! ### How the families are encoded and what they run as -/

theorem encode_instrJpCc (cc : Cond) (w : Word) :
    encode (instrJpCc cc w) = [0b11000010#8 ||| condCode cc <<< 3, loByte w, hiByte w] := by
  cases cc <;> rfl

theorem exec_instrJpCc (cc : Cond) (w : Word) (s : State) :
    exec (instrJpCc cc w) s = .next (s.jpCond cc w) := by
  cases cc <;> rfl

theorem encode_instrJrCc (cc : Cond) (e : Byte) :
    encode (instrJrCc cc e) = [0b00100000#8 ||| condCode cc <<< 3, e] := by
  cases cc <;> rfl

theorem exec_instrJrCc (cc : Cond) (e : Byte) (s : State) :
    exec (instrJrCc cc e) s = .next (s.jrCond cc e) := by
  cases cc <;> rfl

theorem encode_instrCallCc (cc : Cond) (w : Word) :
    encode (instrCallCc cc w) = [0b11000100#8 ||| condCode cc <<< 3, loByte w, hiByte w] := by
  cases cc <;> rfl

theorem exec_instrCallCc (cc : Cond) (w : Word) (s : State) :
    exec (instrCallCc cc w) s = .next (s.callCond cc w) := by
  cases cc <;> rfl

theorem encode_instrRetCc (cc : Cond) :
    encode (instrRetCc cc) = [0b11000000#8 ||| condCode cc <<< 3] := by
  cases cc <;> rfl

theorem exec_instrRetCc (cc : Cond) (s : State) :
    exec (instrRetCc cc) s = .next (s.retCond cc) := by
  cases cc <;> rfl

theorem encode_instrRst (y : Fin 8) :
    encode (instrRst y) = [BitVec.ofNat 8 (0xC7 + 8 * y.val)] := by
  revert y; decide

theorem exec_instrRst (y : Fin 8) (s : State) : exec (instrRst y) s = .next (s.rst y) := by
  unfold instrRst; split <;> rfl

theorem exec_jr_e8 (e : Byte) (s : State) : exec (.jr_e8 e) s = .next (s.jrRel e) := rfl

theorem exec_call_a16 (w : Word) (s : State) : exec (.call_a16 w) s = .next (s.callAbs w) := rfl

theorem exec_ret (s : State) : exec .ret s = .next s.ret := rfl

theorem exec_reti (s : State) : exec .reti s = .next (s.returnFromInterrupt 16) := rfl

/-! ### The condition, the relative target and the stack -/

/-- The model's test is the condition of R154. -/
theorem State.cond_iff_condHolds (s : State) (cc : Cond) :
    s.cond cc = true ↔ condHolds cc s.flags := by
  cases cc <;> simp [State.cond, condHolds]

/-- The displacement is added to the address after the instruction, the sum reduced once. -/
theorem State.relTarget_eq_ofInt (s : State) (e : Byte) :
    s.relTarget e = BitVec.ofInt 16 ((s.pc.toNat : Int) + 2 + e.toInt) := by
  have hnext : BitVec.ofInt 16 (s.pc.toNat + 2) = s.pc + 2#16 := by
    rw [BitVec.ofInt_add, BitVec.ofInt_natCast, BitVec.ofNat_toNat, BitVec.setWidth_eq]; rfl
  rw [BitVec.ofInt_add, hnext]; rfl

/-- Everything a call does: the push of the return address, then the jump (R162, R167). -/
theorem State.push16_jumpTo_eq (s : State) (returnTo target : Word) (cycles : Nat) :
    (s.push16 returnTo).jumpTo target cycles =
      { s with
        mem := (s.mem.write (s.sp - 1#16) (hiByte returnTo)).write (s.sp - 2#16) (loByte returnTo)
        sp := s.sp - 2#16
        trace := s.trace ++ [.write (s.sp - 1#16) (hiByte returnTo),
          .write (s.sp - 2#16) (loByte returnTo)]
        pc := target, result := .ok cycles } := by
  rw [State.push16_eq]; rfl

/-- Everything a return does: the pop, then the jump to what it answers (R164). -/
theorem State.pop16_jumpTo_eq (s : State) (cycles : Nat) :
    s.pop16.2.jumpTo s.pop16.1 cycles =
      { s with
        sp := s.sp + 2#16
        answers := s.answers.drop 2
        trace := s.trace ++ [.read s.sp (s.busAnswer s.sp),
          .read (s.sp + 1#16) ((s.afterRead s.sp).busAnswer (s.sp + 1#16))]
        pc := joinBytes ((s.afterRead s.sp).busAnswer (s.sp + 1#16)) (s.busAnswer s.sp)
        result := .ok cycles } := by
  have hanswers : s.answers.tail.tail = s.answers.drop 2 := by rw [← List.drop_one, List.drop_tail]
  rw [State.pop16_eq, hanswers]; rfl

/-! ### The instructions -/

/-- Settles O36: only the relative target is computed. -/
theorem unconditionalJumps : Obligations.UnconditionalJumps := by
  intro w e s
  refine ⟨⟨rfl, rfl⟩, ⟨rfl, rfl⟩, rfl, ?_⟩
  rw [exec_jr_e8, State.jrRel, State.relTarget_eq_ofInt, State.jumpTo]

/-- Settles O37: each family is one branch on the condition. -/
theorem conditionalJumps : Obligations.ConditionalJumps := by
  intro cc w e s
  refine ⟨encode_instrJpCc cc w, encode_instrJrCc cc e, ?_⟩
  rw [exec_instrJpCc, exec_instrJrCc, State.jpCond, State.jrCond, ← s.cond_iff_condHolds,
    ← s.relTarget_eq_ofInt]
  constructor <;> intro hcond
  · rw [if_pos hcond, if_pos hcond]; exact ⟨rfl, rfl⟩
  · rw [if_neg hcond, if_neg hcond]; exact ⟨rfl, rfl⟩

/-- Settles O38: the three taken forms are one push and jump. -/
theorem callsAndRestarts : Obligations.CallsAndRestarts := by
  intro s calls
  have hcalls {i : Instr} {len target : Word} {cycles : Nat}
      (h : exec i s = .next ((s.push16 (s.pc + len)).jumpTo target cycles)) :
      calls i len target cycles :=
    ⟨_, h.trans (congrArg _ (s.push16_jumpTo_eq _ _ _)), s.mem.write_write_storesTwo _ _ _ _⟩
  refine ⟨fun w => ⟨rfl, hcalls (exec_call_a16 w s)⟩,
    fun cc w => ⟨encode_instrCallCc cc w, fun htaken => hcalls ?_, fun hnot => ?_⟩,
    fun y => ⟨encode_instrRst y, hcalls (exec_instrRst y s)⟩⟩
  · rw [exec_instrCallCc, State.callCond, if_pos ((s.cond_iff_condHolds cc).mpr htaken)]
  · rw [exec_instrCallCc, State.callCond, if_neg (mt (s.cond_iff_condHolds cc).mp hnot),
      State.finish]

/-- Settles O39: the three returns are one pop and jump, after which RETI sets IME. -/
theorem returns : Obligations.Returns := by
  intro s lo8 hi8 popped
  have hpop (cycles : Nat) :
      s.pop16.2.jumpTo s.pop16.1 cycles = { popped with result := .ok cycles } :=
    s.pop16_jumpTo_eq cycles
  refine ⟨⟨rfl, ?_⟩, ⟨rfl, ?_⟩,
    fun cc => ⟨encode_instrRetCc cc, fun htaken => ?_, fun hnot => ?_⟩⟩
  · rw [exec_ret, State.ret, hpop]
  · have hreti : s.returnFromInterrupt 16 = { s.pop16.2.jumpTo s.pop16.1 16 with ime := true } := rfl
    rw [exec_reti, hreti, hpop]
  · rw [exec_instrRetCc, State.retCond, if_pos ((s.cond_iff_condHolds cc).mpr htaken), hpop]
  · rw [exec_instrRetCc, State.retCond, if_neg (mt (s.cond_iff_condHolds cc).mp hnot),
      State.finish]

end Sys2Proof.Machine
end

section
/-! PROOFS. A core that nothing can wake: halted, no action of the environment to come and no dispatch
possible (R169, R177, R183). -/

namespace Sys2Proof.Machine

/-! ### The scan that dispatches nothing -/

/-- No dispatch is possible: IME is clear, or no line is both enabled and pending in the plain RAM
(R183). -/
def State.NoDispatch (s : State) : Prop :=
  s.ime = false ∨
    s.PlainRAM ∧ s.mem.read s.cfg.ieAddr &&& s.mem.read s.cfg.ifAddr &&& 0x1F#8 = 0#8

/-- The transactions of a scan of the plain RAM that finds no line: none with IME clear, else the reads
of IE and IF (R183). -/
def State.idleScan (s : State) : List BusOp :=
  if s.ime then
    [.read s.cfg.ieAddr (s.mem.read s.cfg.ieAddr), .read s.cfg.ifAddr (s.mem.read s.cfg.ifAddr)]
  else []

theorem State.idleScan_disabled {s : State} (h : s.ime = false) : s.idleScan = [] := by
  simp [State.idleScan, h]

theorem State.idleScan_enabled {s : State} (h : s.ime = true) :
    s.idleScan =
      [.read s.cfg.ieAddr (s.mem.read s.cfg.ieAddr), .read s.cfg.ifAddr (s.mem.read s.cfg.ifAddr)] :=
  if_pos h

theorem firstPending_zero : firstPending 0#8 = none := by decide

/-- A read of the plain RAM leaves nothing but its transaction (R67). -/
theorem State.afterRead_plainRAM {s : State} (h : s.PlainRAM) (a : Word) :
    s.afterRead a = { s with trace := s.trace ++ [.read a (s.mem.read a)] } := by
  simp [State.afterRead, State.busAnswer_plainRAM h, h]

theorem State.PlainRAM.afterRead {s : State} (h : s.PlainRAM) (a : Word) :
    (s.afterRead a).PlainRAM := by
  rw [State.afterRead_plainRAM h]; exact h

theorem State.afterRead_afterRead_plainRAM {s : State} (h : s.PlainRAM) (a b : Word) :
    (s.afterRead a).afterRead b =
      { s with trace := s.trace ++ [.read a (s.mem.read a), .read b (s.mem.read b)] } := by
  rw [State.afterRead_plainRAM (h.afterRead a), State.afterRead_plainRAM h]
  simp only [List.append_assoc, List.singleton_append]

/-- Where no dispatch is possible the interrupt controller leaves only its reads. -/
theorem State.boundary_of_noDispatch {s : State} (h : s.NoDispatch) :
    s.boundary = { s with trace := s.trace ++ s.idleScan } := by
  by_cases hime : s.ime = false
  · rw [State.boundary_disabled hime, State.idleScan_disabled hime, List.append_nil]
  · obtain ⟨hplain, hnone⟩ := h.resolve_left hime
    rw [Bool.not_eq_false] at hime
    have hscan : firstPending (s.busAnswer s.cfg.ieAddr &&&
        (s.afterRead s.cfg.ieAddr).busAnswer s.cfg.ifAddr &&& 0x1F#8) = none := by
      rw [State.busAnswer_plainRAM hplain, State.busAnswer_plainRAM (hplain.afterRead _),
        State.afterRead_mem, hnone, firstPending_zero]
    rw [State.boundary_enabled hime, hscan, State.idleScan_enabled hime]
    exact State.afterRead_afterRead_plainRAM hplain _ _

/-! ### The steps of a sleeping core -/

/-- The core is halted and nothing is there to wake it. -/
structure State.Asleep (s : State) : Prop where
  noFault : s.fault = none
  halted : s.halted = true
  noActions : ∀ acts ∈ s.inputs, acts = []
  noDispatch : s.NoDispatch

/-- What `n > 0` halted ticks leave: `n` lists of actions used up, the latest scan in the trace and the
result of a halted tick. -/
def State.slept (s : State) (n : Nat) : State :=
  { s with inputs := s.inputs.drop n, trace := s.idleScan, result := .ok haltTickCycles }

theorem State.slept_slept (s : State) (m n : Nat) : (s.slept m).slept n = s.slept (m + n) := by
  rw [State.slept, State.slept, List.drop_drop]; rfl

theorem State.Asleep.slept {s : State} (h : s.Asleep) (n : Nat) : (s.slept n).Asleep where
  noFault := h.noFault
  halted := h.halted
  noActions acts hacts := h.noActions acts (List.mem_of_mem_drop hacts)
  noDispatch := h.noDispatch

/-- An environment that does nothing only uses up its empty list of actions (R61). -/
theorem State.deliver_of_noActions {s : State} (h : ∀ acts ∈ s.inputs, acts = []) :
    s.deliver = { s with inputs := s.inputs.drop 1 } := by
  cases hin : s.inputs with
  | nil => rw [State.deliver_nil hin, List.drop_nil, ← hin]
  | cons acts rest =>
    obtain rfl : acts = [] := h acts (by simp [hin])
    rw [State.deliver_cons hin]
    rfl

/-- One step is a halted tick and a scan that dispatches nothing (R177). -/
theorem State.Asleep.step_eq {s : State} (h : s.Asleep) : step s = .next (s.slept 1) := by
  have hbegin : s.beginStep = { s with inputs := s.inputs.drop 1, trace := [] } := by
    rw [State.beginStep, State.deliver_of_noActions h.noActions]
  have htick : s.beginStep.haltTick.NoDispatch := by rw [hbegin]; exact h.noDispatch
  have hcore : step s = .next s.beginStep.haltTick.boundary :=
    stepCore_halted (by rw [hbegin]; exact h.noFault) (by rw [hbegin]; exact h.halted)
  rw [hcore, State.boundary_of_noDispatch htick, hbegin]
  rfl

theorem core_run_succ {s t : State} (h : step s = .next t) (n : Nat) :
    core.run (n + 1) s = core.run n t := by
  have hcore : core.step s = .next t := h
  simp only [Host.Core.run, hcore]

/-- A sleeping core sleeps on, however many steps it takes. -/
theorem State.Asleep.run_eq (n : Nat) {s : State} (h : s.Asleep) :
    core.run (n + 1) s = .next (s.slept (n + 1)) := by
  induction n generalizing s with
  | zero => exact core_run_succ h.step_eq 0
  | succ n ih =>
    calc core.run (n + 2) s
      _ = core.run (n + 1) (s.slept 1) := core_run_succ h.step_eq (n + 1)
      _ = .next ((s.slept 1).slept (n + 1)) := ih (h.slept 1)
      _ = .next (s.slept (n + 2)) := by rw [State.slept_slept, Nat.add_comm]

/-- Settles O48, by induction on the number of steps of a sleeping core. -/
theorem haltedForEverWithoutRequest : Obligations.HaltedForEverWithoutRequest := by
  intro n s hfault hhalted hactions hdispatch
  have hasleep : s.Asleep := ⟨hfault, hhalted, hactions, hdispatch⟩
  exact ⟨s.slept (n + 1), hasleep.run_eq n, rfl, State.idleScan_disabled, State.idleScan_enabled⟩

end Sys2Proof.Machine
end

section
/-! PROOFS. The system instructions (R168 to R172). -/

namespace Sys2Proof.Machine

/-- Settles O40: each instruction is its one named operation, and the opcode its whole encoding. -/
theorem systemInstructions : Obligations.SystemInstructions := fun _ =>
  ⟨⟨rfl, rfl⟩, ⟨rfl, rfl⟩, ⟨rfl, rfl⟩, ⟨rfl, rfl⟩⟩

/-! ### STOP by its mode (R170) -/

theorem exec_stop (v : Byte) (s : State) : exec (.stop v) s = .next s.stop := rfl

theorem State.stop_of_haltLike {s : State} (h : s.cfg.stopMode = .haltLike) :
    s.stop = { s with halted := true }.finish 2 4 := by simp [State.stop, h]

theorem State.stop_of_fault {s : State} (h : s.cfg.stopMode = .fault) :
    s.stop = s.raiseUndefined 0x10#8 false := by simp [State.stop, h]

/-- Under `STOP_MODE = Fault` the fetch of STOP is one read (R170). -/
theorem State.fetch_stop_of_fault {s : State} (hmode : s.cfg.stopMode = .fault)
    (hop : s.busAnswer s.pc = 0x10#8) : s.fetch = (.stop 0x00#8, s.afterRead s.pc) := by
  have hcell : cell 0x10#8 = .stop := rfl
  simp [State.fetch, hop, hcell, hmode]

/-- After a fault the interrupt controller does not run (R180, R186). -/
theorem State.endStep_raiseUndefined (s : State) (opcode : Byte) (prefixed : Bool) :
    (s.raiseUndefined opcode prefixed).endStep = s.raiseUndefined opcode prefixed := rfl

/-- The step of a running core that meets STOP under `STOP_MODE = Fault`. -/
theorem stepCore_stop_of_fault {s : State} (hrun : s.Running) (hmode : s.cfg.stopMode = .fault)
    (hop : s.busAnswer s.pc = 0x10#8) :
    stepCore s = .next ((s.afterRead s.pc).raiseUndefined 0x10#8 false) := by
  have hstop : (s.afterRead s.pc).stop = (s.afterRead s.pc).raiseUndefined 0x10#8 false :=
    State.stop_of_fault hmode
  obtain ⟨hfault, hhalted⟩ := hrun
  rw [stepCore_running hfault hhalted, State.fetch_stop_of_fault hmode hop, exec_stop, hstop,
    finishStep, State.endStep_raiseUndefined]

/-- Settles O41: the two modes of the instruction, then the step under `STOP_MODE = Fault`. -/
theorem stopByItsMode : Obligations.StopByItsMode := by
  intro s
  refine ⟨fun _ => rfl, fun hmode v => ?haltLike, fun hmode v => ?fault,
    fun hmode hrun hop => ?step⟩
  case haltLike => rw [exec_stop, State.stop_of_haltLike hmode, State.finish]
  case fault => rw [exec_stop, State.stop_of_fault hmode, State.raiseUndefined]
  case step =>
    have hmode' : s.beginStep.cfg.stopMode = .fault := by simp [State.beginStep, hmode]
    have hcore := stepCore_stop_of_fault (s := s.beginStep) hrun hmode' hop
    have hread : s.beginStep.afterRead s.beginStep.pc =
        { s.deliver with
          answers := s.deliver.answers.tail, trace := [.read s.deliver.pc 0x10#8] } := by
      rw [← hop]; rfl
    rw [step, stepDriver, hcore, hread, State.raiseUndefined]

end Sys2Proof.Machine
end

section
/-! PROOFS. What every instruction leaves: it completes in 4 to 24 cycles with no fault, or it raises a
fault that R179 allows (R179, R180, R204). -/

namespace Sys2Proof.Machine

/-! ### The fields no instruction writes -/

/-- From `s` to `t` the recorded fault and the parameters stay, and a canonical memory stays canonical. -/
structure Keeps (s t : State) : Prop where
  fault : t.fault = s.fault
  cfg : t.cfg = s.cfg
  wf : s.mem.wf → t.mem.wf

theorem Keeps.refl (s : State) : Keeps s s := ⟨rfl, rfl, id⟩

theorem Keeps.trans {s t u : State} (hst : Keeps s t) (htu : Keeps t u) : Keeps s u :=
  ⟨htu.fault.trans hst.fault, htu.cfg.trans hst.cfg, htu.wf ∘ hst.wf⟩

theorem Keeps.of_eq {s t : State} (hfault : t.fault = s.fault) (hcfg : t.cfg = s.cfg)
    (hmem : t.mem = s.mem) : Keeps s t := ⟨hfault, hcfg, fun h => hmem ▸ h⟩

theorem State.busWrite_keeps (s : State) (a : Word) (v : Byte) : Keeps s (s.busWrite a v) :=
  ⟨rfl, rfl, fun h => Memory.write_wf h a v⟩

theorem State.afterRead_keeps (s : State) (a : Word) : Keeps s (s.afterRead a) := ⟨rfl, rfl, id⟩

theorem State.setReg_keeps (s : State) (r : Reg8) (v : Byte) : Keeps s (s.setReg r v) :=
  Keeps.of_eq (by simp) (by simp) (by simp)

theorem State.setReg16_keeps (s : State) (rr : Reg16) (w : Word) : Keeps s (s.setReg16 rr w) :=
  Keeps.of_eq (by simp) (by simp) (by simp)

theorem State.setStackPair_keeps (s : State) (rr : StackPair) (w : Word) :
    Keeps s (s.setStackPair rr w) :=
  Keeps.of_eq (by simp) (by simp) (by simp)

theorem State.setHL_keeps (s : State) (w : Word) : Keeps s (s.setHL w) := ⟨rfl, rfl, id⟩

theorem State.alu_keeps (s : State) (op : AluOp) (v : Byte) : Keeps s (s.alu op v) :=
  ⟨rfl, rfl, id⟩

theorem State.withFlags_keeps (s : State) (f : Flags) : Keeps s { s with flags := f } :=
  ⟨rfl, rfl, id⟩

theorem State.readOperand_keeps (s : State) (o : Operand8) : Keeps s (s.readOperand o).2 := by
  cases o
  case reg => exact .refl s
  case mHL => exact s.afterRead_keeps s.hl

theorem State.writeOperand_keeps (s : State) (o : Operand8) (v : Byte) :
    Keeps s (s.writeOperand o v) := by
  cases o
  case reg r => exact s.setReg_keeps r v
  case mHL => exact s.busWrite_keeps s.hl v

theorem State.push16_keeps (s : State) (w : Word) : Keeps s (s.push16 w) := by
  rw [State.push16_eq]
  exact ⟨rfl, rfl, fun h => Memory.write_wf (Memory.write_wf h _ _) _ _⟩

theorem State.pop16_keeps (s : State) : Keeps s s.pop16.2 := by
  rw [State.pop16_eq]
  exact ⟨rfl, rfl, id⟩

theorem Keeps.of_fetch (s : State) : Keeps s s.fetch.2 := by
  rw [State.fetch_keeps]
  exact ⟨rfl, rfl, id⟩

/-! ### Completion -/

/-- From `s` an instruction or a halted tick completes in `t`: no fault is raised, and the cycles
reported are within the bounds of R204. -/
structure Completes (s t : State) : Prop extends Keeps s t where
  cycles : ∃ n, t.result = .ok n ∧ 4 ≤ n ∧ n ≤ 24

/-- The last thing an instruction does is report its cycles. -/
theorem Keeps.completes {s u t : State} {n : Nat} (hsu : Keeps s u) (hut : Keeps u t)
    (hresult : t.result = .ok n) (hn : 4 ≤ n ∧ n ≤ 24) : Completes s t :=
  ⟨hsu.trans hut, n, hresult, hn⟩

theorem Keeps.finish {s u : State} (h : Keeps s u) (len : Nat) {n : Nat} (hn : 4 ≤ n ∧ n ≤ 24) :
    Completes s (u.finish len n) := h.completes ⟨rfl, rfl, id⟩ rfl hn

theorem Keeps.jumpTo {s u : State} (h : Keeps s u) (target : Word) {n : Nat}
    (hn : 4 ≤ n ∧ n ≤ 24) : Completes s (u.jumpTo target n) := h.completes ⟨rfl, rfl, id⟩ rfl hn

theorem State.aluOperand_completes (s : State) (op : AluOp) (o : Operand8) :
    Completes s (s.aluOperand op o) :=
  ((s.readOperand_keeps o).trans (State.alu_keeps _ op _)).finish 1 (by cases o <;> simp)

theorem State.bitOperand_completes (s : State) (b : Fin 8) (o : Operand8) :
    Completes s (s.bitOperand b o) :=
  ((s.readOperand_keeps o).trans (State.withFlags_keeps _ _)).finish 2 (by cases o <;> simp)

theorem State.rotOperand_completes (s : State) (op : RotOp) (o : Operand8) :
    Completes s (s.rotOperand op o) :=
  (((s.readOperand_keeps o).trans (State.withFlags_keeps _ _)).trans
    (State.writeOperand_keeps _ o _)).finish 2 (by cases o <;> simp)

theorem State.resOperand_completes (s : State) (b : Fin 8) (o : Operand8) :
    Completes s (s.resOperand b o) :=
  ((s.readOperand_keeps o).trans (State.writeOperand_keeps _ o _)).finish 2
    (by cases o <;> simp)

theorem State.setOperand_completes (s : State) (b : Fin 8) (o : Operand8) :
    Completes s (s.setOperand b o) :=
  ((s.readOperand_keeps o).trans (State.writeOperand_keeps _ o _)).finish 2
    (by cases o <;> simp)

theorem State.cbRow_completes (s : State) (op2 : Byte) : Completes s (s.cbRow op2) := by
  unfold State.cbRow
  split
  · exact s.rotOperand_completes _ _
  · exact s.bitOperand_completes _ _
  · exact s.resOperand_completes _ _
  · exact s.setOperand_completes _ _

/-- The stepping stores, for every step, so that the kernel does not compute with -1. -/
theorem State.ldMemAccStep_completes (s : State) (delta : Word) :
    Completes s (s.ldMemAccStep delta) :=
  ((s.busWrite_keeps s.hl s.a).trans (State.setHL_keeps _ _)).finish 1 (by decide)

theorem State.ldAccMemStep_completes (s : State) (delta : Word) :
    Completes s (s.ldAccMemStep delta) :=
  (((s.afterRead_keeps s.hl).trans (State.setReg_keeps _ .A _)).trans
    (State.setHL_keeps _ _)).finish 1 (by decide)

/-! ### The faults -/

/-- A fault is raised in `t` as R180 says, and it is one R179 allows. -/
def Faults (s t : State) : Prop :=
  ∃ op, Fault.Legal s.cfg (.undefinedOpcode op false) ∧ t = s.raiseUndefined op false

theorem legal_of_mem_undefinedOpcodes (cfg : Config) {op : Byte} (h : op ∈ undefinedOpcodes) :
    Fault.Legal cfg (.undefinedOpcode op false) := ⟨rfl, .inl h⟩

/-- STOP completes or faults by its mode (R170). -/
theorem State.stop_completes_or_faults (s : State) :
    Completes s s.stop ∨ Faults s s.stop := by
  cases hmode : s.cfg.stopMode
  case haltLike =>
    rw [State.stop_of_haltLike hmode]
    exact .inl ((Keeps.refl s).completes ⟨rfl, rfl, id⟩ rfl (by decide))
  case fault =>
    rw [State.stop_of_fault hmode]
    exact .inr ⟨0x10#8, ⟨rfl, .inr ⟨rfl, hmode⟩⟩, rfl⟩

/-- Every row but STOP and the undefined ones completes. -/
theorem Runs.completes_or_faults {s t : State} {i : Instr} (h : Runs s t i) :
    Completes s t ∨ Faults s t := by
  cases h
  case undefined op hi hop =>
    have hmem : op ∈ undefinedOpcodes := (isUndefined_iff_of_encode hop).mp hi
    exact .inr ⟨op, legal_of_mem_undefinedOpcodes s.cfg hmem, rfl⟩
  case stop => exact s.stop_completes_or_faults
  all_goals left
  case ldRR | ldRD8 => exact (s.setReg_keeps _ _).finish _ (by decide)
  case ldRM => exact ((s.afterRead_keeps _).trans (State.setReg_keeps _ _ _)).finish _ (by decide)
  case incR | decR =>
    exact ((s.withFlags_keeps _).trans (State.setReg_keeps _ _ _)).finish _ (by decide)
  case ldRrD16 | incRr | decRr | ldSPHL => exact (s.setReg16_keeps _ _).finish _ (by decide)
  case push => exact (s.push16_keeps _).finish _ (by decide)
  case call | rst => exact (s.push16_keeps _).jumpTo _ (by decide)
  case pop => exact (s.pop16_keeps.trans (State.setStackPair_keeps _ _ _)).finish _ (by decide)
  case ret => exact s.pop16_keeps.jumpTo _ (by decide)
  case reti => exact s.pop16_keeps.completes ⟨rfl, rfl, id⟩ rfl (by decide)
  case alu op o => exact s.aluOperand_completes op o
  case rot op o => exact s.rotOperand_completes op o
  case bit b o => exact s.bitOperand_completes b o
  case res b o => exact s.resOperand_completes b o
  case set b o => exact s.setOperand_completes b o
  case prefixCB op2 => exact s.cbRow_completes op2
  case jpCc | jrCc =>
    simp only [State.jpCond, State.jrCond]
    split
    · exact (Keeps.refl s).jumpTo _ (by decide)
    · exact (Keeps.refl s).finish _ (by decide)
  case callCc =>
    unfold State.callCond
    split
    · exact (s.push16_keeps _).jumpTo _ (by decide)
    · exact (Keeps.refl s).finish _ (by decide)
  case retCc =>
    unfold State.retCond
    split
    · exact s.pop16_keeps.jumpTo _ (by decide)
    · exact (Keeps.refl s).finish _ (by decide)
  case incM | decM =>
    exact (((s.afterRead_keeps s.hl).trans (State.withFlags_keeps _ _)).trans
      (State.busWrite_keeps _ _ _)).finish _ (by decide)
  case ldMR | stBCAcc | stDEAcc | stCAcc | ldhStore | ldAbsStore | ldMemImm =>
    exact (s.busWrite_keeps _ _).finish _ (by decide)
  case stIncAcc | stDecAcc => exact s.ldMemAccStep_completes _
  case ldAccInc | ldAccDec => exact s.ldAccMemStep_completes _
  case ldAbsSP =>
    exact ((s.busWrite_keeps _ _).trans (State.busWrite_keeps _ _ _)).finish _ (by decide)
  all_goals exact (Keeps.refl s).completes ⟨rfl, rfl, id⟩ rfl (by decide)

/-- Settles O43: `exec_runs` names the state each row ends in. -/
theorem everyInstructionCompletes : Obligations.EveryInstructionCompletes := fun i s =>
  let ⟨t, hexec, _⟩ := exec_runs i s
  ⟨t, hexec⟩

end Sys2Proof.Machine
end

section
/-! PROOFS. What one step does, and the invariant it keeps (R176, R179, R180, R204). -/

namespace Sys2Proof.Machine

/-! ### The interrupt controller -/

/-- A boundary leaves the result, or adds the dispatch cycles to it (R176). -/
theorem State.boundary_result (s : State) :
    s.boundary.result = s.result ∨
      s.boundary.result = s.result.addCycles s.cfg.intDispatchCycles := by
  cases hime : s.ime
  · exact .inl (by rw [State.boundary_disabled hime])
  · rw [State.boundary_enabled hime]
    split
    · exact .inl rfl
    · exact .inr (by rw [State.takeInterrupt_eq]; rfl)

theorem Keeps.of_boundary (s : State) : Keeps s s.boundary := by
  obtain ⟨-, -, -, -, -, -, -, -, hfault, hcfg, -⟩ := s.boundary_keeps
  exact ⟨hfault, hcfg, State.boundary_wf⟩

/-- What is reported after an instruction and the boundary that follows it (R204). -/
theorem Completes.boundary_cycles {s t : State} (h : Completes s t) :
    ∃ n, t.boundary.result = .ok n ∧ 4 ≤ n ∧ n ≤ 24 + s.cfg.intDispatchCycles := by
  obtain ⟨n, hresult, hlo, hhi⟩ := h.cycles
  obtain hsame | hadded := t.boundary_result
  · exact ⟨n, hsame.trans hresult, hlo, by omega⟩
  · refine ⟨n + s.cfg.intDispatchCycles, ?_, by omega, by omega⟩
    rw [hadded, hresult, h.cfg]; rfl

theorem State.endStep_of_noFault {s : State} (h : s.fault = none) : s.endStep = s.boundary := by
  simp [State.endStep, h]

/-! ### The step driver -/

theorem State.haltTick_completes (s : State) : Completes s s.haltTick :=
  (Keeps.refl s).completes ⟨rfl, rfl, id⟩ rfl (by decide)

/-- `StepsTo s t`: the step driver, on a state `s` to which the environment has done its actions, ends
in `t` (R176). -/
inductive StepsTo (s : State) : State → Prop where
  /-- A recorded fault is returned again (R180). -/
  | stuck (f : Fault) (hfault : s.fault = some f) : StepsTo s { s with result := .err f }
  /-- An instruction or a halted tick completes, and the interrupt controller runs (R177, R185). -/
  | completed (u : State) (hfault : s.fault = none) (hcompletes : Completes s u) :
    StepsTo s u.boundary
  /-- The instruction fetched raises a fault, and the interrupt controller does not run (R180). -/
  | faulted (op : Byte) (hhalted : s.halted = false)
    (hlegal : Fault.Legal s.cfg (.undefinedOpcode op false)) :
    StepsTo s (s.fetch.2.raiseUndefined op false)

/-- The inversion lemma of the step driver. -/
theorem stepCore_stepsTo (s : State) : ∃ t, stepCore s = .next t ∧ StepsTo s t := by
  cases hfault : s.fault with
  | some f => exact ⟨_, stepCore_faulted hfault, .stuck f hfault⟩
  | none =>
    cases hhalted : s.halted
    case true => exact ⟨_, stepCore_halted hfault hhalted, .completed _ hfault s.haltTick_completes⟩
    case false =>
      have hfetch : Keeps s s.fetch.2 := Keeps.of_fetch s
      obtain ⟨u, hexec, hruns⟩ := exec_runs s.fetch.1 s.fetch.2
      have hstep : stepCore s = .next u.endStep := by
        rw [stepCore_running hfault hhalted, hexec, finishStep]
      obtain hcompletes | ⟨op, hlegal, rfl⟩ := hruns.completes_or_faults
      · have hall : Completes s u := ⟨hfetch.trans hcompletes.toKeeps, hcompletes.cycles⟩
        rw [State.endStep_of_noFault (hall.fault.trans hfault)] at hstep
        exact ⟨_, hstep, .completed u hfault hall⟩
      · rw [State.endStep_raiseUndefined] at hstep
        exact ⟨_, hstep, .faulted op hhalted (hfetch.cfg ▸ hlegal)⟩

theorem step_stepsTo (s : State) : ∃ t, step s = .next t ∧ StepsTo s.beginStep t :=
  stepCore_stepsTo s.beginStep

theorem stepsTo_of_step {s t : State} (h : step s = .next t) : StepsTo s.beginStep t := by
  obtain ⟨u, hu, hsteps⟩ := step_stepsTo s
  obtain rfl : u = t := Host.Outcome.next.inj (hu.symm.trans h)
  exact hsteps

theorem StepsTo.cfg_eq {s t : State} (h : StepsTo s t) : t.cfg = s.cfg := by
  cases h with
  | stuck => rfl
  | completed u _ hcompletes => exact (Keeps.of_boundary u).cfg.trans hcompletes.cfg
  | faulted => exact (Keeps.of_fetch s).cfg

@[simp] theorem State.beginStep_cfg (s : State) : s.beginStep.cfg = s.cfg := s.deliver_cfg

/-- Settles O56: the step driver ends in every case, and the environment leaves the parameters too. -/
theorem everyStepReturnsAndKeepsTheParameters :
    Obligations.EveryStepReturnsAndKeepsTheParameters := by
  intro s
  obtain ⟨t, hstep, hsteps⟩ := step_stepsTo s
  exact ⟨t, hstep, hsteps.cfg_eq.trans s.beginStep_cfg⟩

/-- Settles O52: only a completed step returns cycles. -/
theorem stepCyclesAreBounded : Obligations.StepCyclesAreBounded := by
  intro s t n hstep hresult
  cases stepsTo_of_step hstep with
  | stuck => nomatch hresult
  | faulted => nomatch hresult
  | completed u _ hcompletes =>
    obtain ⟨m, hcycles, hbounds⟩ := hcompletes.boundary_cycles
    obtain rfl : m = n := StepResult.ok.inj (hcycles.symm.trans hresult)
    rwa [s.beginStep_cfg] at hbounds

/-! ### The invariant -/

/-- Without a fault the invariant asks only for the canonical memory and a result that is no error. -/
theorem State.Inv.of_noFault {s : State} (hmem : s.mem.wf) (hfault : s.fault = none)
    (hresult : ∀ f, s.result ≠ .err f) : s.Inv where
  memory := hmem
  reported f := by simp [hfault, hresult f]
  faultedNotHalted f h := by simp [hfault] at h
  legal f h := by simp [hfault] at h

/-- The core's part of a reset that the invariant speaks of, under either profile (R197). -/
theorem State.resetWith_idle (cfg : Config) :
    (State.resetWith cfg).fault = none ∧ (State.resetWith cfg).result = .idle := by
  unfold State.resetWith
  split <;> exact ⟨rfl, rfl⟩

theorem State.resetCore_inv {s : State} (h : s.mem.wf) : s.resetCore.Inv := by
  obtain ⟨hfault, hresult⟩ := State.resetWith_idle s.cfg
  exact .of_noFault h hfault fun f => by simp [State.resetCore, hresult]

/-- Settles O54: the memory at reset lists nothing, and the core is idle. -/
theorem invariantAtReset : Obligations.InvariantAtReset :=
  .of_noFault Memory.wf_nil rfl nofun

/-- A store leaves the core; a request can only wake it; a reset clears the fault with its report. -/
theorem State.Inv.applyAction {s : State} (h : s.Inv) (x : EnvAction) : (s.applyAction x).Inv := by
  cases x with
  | busWrite a v => exact { h with memory := Memory.write_wf h.memory a v }
  | irqRequest line =>
    exact { h with
      memory := Memory.write_wf h.memory _ _
      faultedNotHalted := fun _ _ => rfl }
  | reset => exact State.resetCore_inv h.memory

theorem State.Inv.foldl_applyAction (acts : List EnvAction) {s : State} (h : s.Inv) :
    (acts.foldl State.applyAction s).Inv := by
  induction acts generalizing s with
  | nil => exact h
  | cons x acts ih => exact ih (h.applyAction x)

theorem State.Inv.deliver {s : State} (h : s.Inv) : s.deliver.Inv := by
  cases hin : s.inputs with
  | nil => rwa [State.deliver_nil hin]
  | cons acts rest =>
    rw [State.deliver_cons hin]
    exact .foldl_applyAction acts { h with }

theorem State.Inv.beginStep {s : State} (h : s.Inv) : s.beginStep.Inv := { h.deliver with }

/-- The step driver keeps the invariant, case by case. -/
theorem StepsTo.inv {s t : State} (hsteps : StepsTo s t) (h : s.Inv) : t.Inv := by
  cases hsteps with
  | stuck f hfault => exact { h with reported := fun g => by simp [hfault] }
  | completed u hfault hcompletes =>
    have hkeeps : Keeps s u.boundary := hcompletes.toKeeps.trans (Keeps.of_boundary u)
    obtain ⟨n, hresult, -⟩ := hcompletes.boundary_cycles
    exact .of_noFault (hkeeps.wf h.memory) (hkeeps.fault.trans hfault) fun f => by simp [hresult]
  | faulted op hhalted hlegal =>
    have hfetch : Keeps s s.fetch.2 := Keeps.of_fetch s
    exact {
      memory := hfetch.wf h.memory
      reported := fun f => by simp
      faultedNotHalted := fun _ _ => by rw [State.fetch_keeps]; exact hhalted
      legal := fun f hf => by
        obtain rfl : Fault.undefinedOpcode op false = f := Option.some.inj hf
        exact hfetch.cfg ▸ hlegal }

/-- Settles O55: the environment's actions keep the invariant, then the step driver does. -/
theorem invariantKeptByStep : Obligations.InvariantKeptByStep := fun _ _ h hstep =>
  (stepsTo_of_step hstep).inv h.beginStep

end Sys2Proof.Machine
end

section
/-! PROOFS. The interrupt controller, and RETI after a dispatch (R181 to R188). -/

namespace Sys2Proof.Machine
open Sys2Proof.Claims

/-- Everything two reads of the bus do. -/
theorem State.afterRead_afterRead_eq (s : State) (a b : Word) :
    (s.afterRead a).afterRead b =
      { s with
        answers := s.answers.drop 2
        trace := s.trace ++ [.read a (s.busAnswer a), .read b ((s.afterRead a).busAnswer b)] } := by
  have hanswers : s.answers.tail.tail = s.answers.drop 2 := by rw [← List.drop_one, List.drop_tail]
  simp only [State.afterRead, hanswers, List.append_assoc, List.singleton_append]

/-- The mask of bits 7 to 5 leaves the bits of the lines (R183). -/
theorem bitAt_mask_lineBit (v : Byte) (line : Line) :
    bitAt (v &&& 0x1F#8) (lineBit line) = bitAt v (lineBit line) := by
  cases line <;> simp [bitAt, lineBit]

theorem pending_eq_bitAt (s : State) (line : Line) :
    pending s line = bitAt (scanIE s &&& scanIF s &&& 0x1F#8) (lineBit line) := by
  rw [bitAt_mask_lineBit, bitAt, BitVec.getLsbD_and]; rfl

theorem lineVector_eq_ofNat (line : Line) :
    lineVector line = BitVec.ofNat 16 (0x40 + 8 * lineBit line) := by
  cases line <;> rfl

/-- With IME set and no line pending the scan leaves only its reads (R183). -/
theorem State.boundary_of_noPending {s : State} (hime : s.ime = true)
    (hnone : ∀ line, pending s line = false) :
    s.boundary = (s.afterRead s.cfg.ieAddr).afterRead s.cfg.ifAddr := by
  have hscan : firstPending (scanIE s &&& scanIF s &&& 0x1F#8) = none :=
    (firstPending_none _).mpr fun line => by rw [← pending_eq_bitAt]; exact hnone line
  rw [scanIE, scanIF] at hscan
  rw [State.boundary_enabled hime, hscan]

/-- With IME set the pending line of the lowest number is dispatched (R181, R186). -/
theorem State.boundary_of_pending {s : State} {line : Line} (hime : s.ime = true)
    (hline : pending s line = true)
    (hlower : ∀ k, lineBit k < lineBit line → pending s k = false) :
    s.boundary =
      ((s.afterRead s.cfg.ieAddr).afterRead s.cfg.ifAddr).takeInterrupt line (scanIF s) := by
  simp only [pending_eq_bitAt] at hline hlower
  have hscan : firstPending (scanIE s &&& scanIF s &&& 0x1F#8) = some line :=
    (firstPending_some _ line).mpr ⟨hline, hlower⟩
  rw [scanIE, scanIF] at hscan
  rw [State.boundary_enabled hime, hscan, scanIF]

/-- Three stores, each over the ones before it. -/
theorem Memory.read_write_write_write {m : Memory} (h : m.wf) (a : Word) (v : Byte) (a' : Word)
    (v' : Byte) (a'' : Word) (v'' : Byte) (b : Word) :
    (((m.write a v).write a' v').write a'' v'').read b =
      if b = a'' then v'' else if b = a' then v' else if b = a then v else m.read b := by
  rw [Memory.write_write_storesTwo _ a' v' a'' v'' (Memory.write_wf h a v), Memory.read_write h]

/-- Settles O49: the scan of `boundary_enabled` by what is pending, and the dispatch of
`takeInterrupt_eq` after its two reads. -/
theorem boundaryDispatchesLowestPendingLine :
    Obligations.BoundaryDispatchesLowestPendingLine := by
  intro s
  refine ⟨State.boundary_disabled, fun hime hnone => ?_, fun line hime hline hlower => ?_⟩
  · rw [State.boundary_of_noPending hime hnone, State.afterRead_afterRead_eq]; rfl
  · refine ⟨_, ?_, fun hwf => Memory.read_write_write_write hwf _ _ _ _ _ _⟩
    rw [State.boundary_of_pending hime hline hlower, State.afterRead_afterRead_eq,
      State.takeInterrupt_eq, lineVector_eq_ofNat, List.append_assoc]
    rfl

/-! ### RETI after a dispatch -/

/-- After a dispatch the interrupted PC stands at SP, over the IF byte where they overlap (R184). -/
theorem State.takeInterrupt_read {s : State} (hwf : s.mem.wf) (line : Line) (ifl : Byte) :
    (s.takeInterrupt line ifl).mem.read (s.sp - 2#16) = loByte s.pc ∧
      (s.takeInterrupt line ifl).mem.read (s.sp - 1#16) = hiByte s.pc := by
  simp [State.takeInterrupt_eq, Memory.read_write_write_write hwf]

/-- Settles O50: RETI pops the PC that the dispatch has pushed. -/
theorem returnFromInterruptResumes : Obligations.ReturnFromInterruptResumes := by
  intro s line ifl hwf hplain
  obtain ⟨hlo, hhi⟩ := State.takeInterrupt_read hwf line ifl
  have hsp : (s.takeInterrupt line ifl).sp = s.sp - 2#16 := by rw [State.takeInterrupt_eq]
  have hplain' : (s.takeInterrupt line ifl).PlainRAM := by rw [State.takeInterrupt_eq]; exact hplain
  obtain ⟨trace, hpop⟩ := State.pop16_of_read (w := s.pc) hplain' (by rw [hsp, hlo])
    (by rw [hsp, sub_two_add_one, hhi])
  refine ⟨_, exec_reti _, ?_⟩
  rw [State.returnFromInterrupt, hpop, hsp]
  simp [State.takeInterrupt_eq]

end Sys2Proof.Machine
end

section
/-! PROOFS. One step of a running, a halted and a faulted core, whole, and the steps of a core that
stays faulted (R176, R177, R180). -/

namespace Sys2Proof.Machine
open Sys2Proof.Claims

/-! ### The fetch -/

theorem fetched_one (s : State) :
    fetched s 1 =
      { s with answers := s.answers.tail, trace := [.read s.pc (s.busAnswer s.pc)] } := by
  simp [fetched, window]

/-- When a step begins, what is fetched is what the reads of PC and the bytes after it leave. -/
theorem fetched_eq_afterRead {s : State} (htrace : s.trace = []) :
    fetched s 1 = s.afterRead s.pc ∧
      fetched s 2 = (s.afterRead s.pc).afterRead (s.pc + 1#16) ∧
      fetched s 3 = ((s.afterRead s.pc).afterRead (s.pc + 1#16)).afterRead (s.pc + 2#16) := by
  simp [fetched, window, State.afterRead, htrace, ← List.drop_one]

/-- The fetch answers the instruction that the bytes at PC begin with, one read a byte (R58), but for
STOP under `STOP_MODE = Fault` (R170). -/
theorem State.fetch_of_reads {s : State} {op : Byte} {args rest : List Byte} {i : Instr}
    (htrace : s.trace = []) (hwindow : window s = op :: (args ++ rest))
    (hreads : (cell op).Reads args i) (hstop : ∀ v, i = .stop v → s.cfg.stopMode = .haltLike) :
    s.fetch = (i, fetched s (args.length + 1)) := by
  obtain ⟨hone, htwo, hthree⟩ := fetched_eq_afterRead htrace
  obtain ⟨rfl, hbytes⟩ := List.cons.inj hwindow
  generalize hc : cell (s.busAnswer s.pc) = c at hreads
  cases hreads with
  | op => simp [State.fetch, hc, hone]
  | imm8 f v =>
    obtain ⟨rfl, -⟩ := List.cons.inj hbytes
    simp [State.fetch, hc, htwo]
  | imm16 f w =>
    obtain ⟨hlo, hhi, -⟩ : _ = loByte w ∧ _ = hiByte w ∧ [] = rest := by simpa using hbytes
    simp [State.fetch, hc, hthree, hlo, hhi]
  | stop v =>
    obtain ⟨rfl, -⟩ := List.cons.inj hbytes
    simp [State.fetch, hc, htwo, hstop]
  | cb op2 =>
    obtain ⟨rfl, -⟩ := List.cons.inj hbytes
    simp [State.fetch, hc, htwo]

/-! ### A running core -/

theorem State.endStep_eq_ite (s : State) :
    s.endStep = if s.fault = none then s.boundary else s := by
  cases h : s.fault <;> simp [State.endStep, h]

/-- One step of a running core whose bytes at PC decode to `i` (R176). -/
theorem step_of_decode {s t : State} {i : Instr} {rest : List Byte} (hrun : s.deliver.Running)
    (hdecode : decode (window s.deliver) = .ok i rest)
    (hstop : ∀ v, i = .stop v → s.cfg.stopMode = .haltLike)
    (hexec : exec i (fetched s.deliver (encode i).length) = .next t) : step s = .next t.endStep := by
  obtain ⟨hfault, hhalted⟩ := hrun
  obtain ⟨op, args, hwindow, hreads⟩ := reads_of_decode hdecode
  obtain ⟨-, hencode⟩ := hreads.encode_eq
  have hfetch : s.beginStep.fetch = (i, fetched s.beginStep (args.length + 1)) :=
    State.fetch_of_reads rfl hwindow hreads (by rwa [s.beginStep_cfg])
  have hstep : step s = finishStep (exec s.beginStep.fetch.1 s.beginStep.fetch.2) :=
    stepCore_running hfault hhalted
  rw [hencode, List.length_cons] at hexec
  rw [hstep, hfetch]
  exact congrArg finishStep hexec

/-- Settles O44: the instruction fetched is the one decoded, and `exec_runs` says that it ends. -/
theorem stepRunsDecodedInstruction : Obligations.StepRunsDecodedInstruction := by
  intro s i rest hrun hdecode hstop
  refine ⟨?_, fun hplain => ?_⟩
  · obtain ⟨t, hexec, -⟩ := exec_runs i (fetched s.deliver (encode i).length)
    rw [hexec, step_of_decode hrun hdecode hstop hexec, State.endStep_eq_ite]
  · rw [window, State.busAnswer_plainRAM hplain, State.busAnswer_plainRAM (hplain.afterRead _),
      State.busAnswer_plainRAM ((hplain.afterRead _).afterRead _)]
    rfl

/-- An undefined opcode is a whole instruction: nothing of it is left to read (R89). -/
theorem decode_undefined {op : Byte} (h : op ∈ undefinedOpcodes) (bytes : List Byte) :
    ∃ i, decode (op :: bytes) = .ok i bytes ∧ encode i = [op] ∧ i.isUndefined = true := by
  have hsize : ∀ op ∈ undefinedOpcodes, (cell op).size = 1 := by decide
  obtain ⟨args, rest, i, rfl, hreads⟩ :=
    Cell.exists_reads (c := cell op) (bytes := bytes) (by rw [hsize op h]; omega)
  have hlength : args.length + 1 = 1 := by rw [hreads.length_args, hsize op h]
  obtain rfl : args = [] := List.length_eq_zero_iff.mp (Nat.succ.inj hlength)
  obtain ⟨-, hencode⟩ := hreads.encode_eq
  exact ⟨i, hreads.decode_eq rest, hencode, (isUndefined_iff_of_encode hencode).mpr h⟩

/-- Settles O46: the byte read decodes to an undefined row, which faults, so no boundary follows. -/
theorem undefinedOpcodeStepFaults : Obligations.UndefinedOpcodeStepFaults := by
  rintro s op hrun hop rfl
  obtain ⟨i, hdecode, hencode, hundef⟩ := decode_undefined hop (window s.deliver).tail
  obtain ⟨op', hencode', hexec⟩ :=
    exec_of_isUndefined hundef (fetched s.deliver (encode i).length)
  obtain rfl : _ = op' := List.head_eq_of_cons_eq (hencode.symm.trans hencode')
  have hstop : ∀ v, i = .stop v → s.cfg.stopMode = .haltLike := by
    rintro v rfl
    nomatch hundef
  rw [step_of_decode hrun hdecode hstop hexec, State.endStep_raiseUndefined, hencode]
  simp [fetched_one, State.raiseUndefined]

/-! ### A halted core -/

/-- Settles O45: `stepCore_halted`, after the environment's actions. -/
theorem haltedStepTicksThenScans : Obligations.HaltedStepTicksThenScans := fun s hfault hhalted =>
  stepCore_halted (s := s.beginStep) hfault hhalted

/-! ### A faulted core -/

theorem step_faulted {s : State} {f : Fault} (h : s.deliver.fault = some f) :
    step s = .next { s.deliver with trace := [], result := .err f } :=
  stepCore_faulted (s := s.beginStep) h

/-- From `s` to `t` at most the halted mode, the memory, the actions to come and the outputs of the step
have changed. -/
def CoreStays (s t : State) : Prop :=
  ∃ halted mem inputs trace result,
    t = { s with
      halted := halted, mem := mem, inputs := inputs, trace := trace, result := result }

theorem CoreStays.trans {s t u : State} (hst : CoreStays s t) (htu : CoreStays t u) :
    CoreStays s u := by
  obtain ⟨_, _, _, _, _, rfl⟩ := hst
  obtain ⟨_, _, _, _, _, rfl⟩ := htu
  exact ⟨_, _, _, _, _, rfl⟩

/-- A store or a request leaves the core's registers and its fault (R61, R182). -/
theorem State.applyAction_coreStays (s : State) {x : EnvAction} (hx : x ≠ .reset) :
    CoreStays s (s.applyAction x) := by
  cases x with
  | busWrite a v => exact ⟨_, _, _, _, _, rfl⟩
  | irqRequest line => exact ⟨_, _, _, _, _, rfl⟩
  | reset => exact absurd rfl hx

theorem State.foldl_applyAction_coreStays {acts : List EnvAction} (s : State)
    (h : EnvAction.reset ∉ acts) : CoreStays s (acts.foldl State.applyAction s) := by
  induction acts generalizing s with
  | nil => exact ⟨_, _, _, _, _, rfl⟩
  | cons x acts ih =>
    obtain ⟨hx, hacts⟩ := List.ne_and_not_mem_of_not_mem_cons h
    exact (s.applyAction_coreStays (Ne.symm hx)).trans (ih _ hacts)

theorem State.foldl_applyAction_inputs (acts : List EnvAction) (s : State) :
    (acts.foldl State.applyAction s).inputs = s.inputs := by
  induction acts generalizing s with
  | nil => rfl
  | cons x acts ih =>
    have hx : (s.applyAction x).inputs = s.inputs := by cases x <;> rfl
    rw [List.foldl_cons, ih, hx]

theorem State.deliver_inputs (s : State) : s.deliver.inputs = s.inputs.tail := by
  cases hin : s.inputs with
  | nil => rw [State.deliver_nil hin, hin]; rfl
  | cons acts rest => rw [State.deliver_cons hin, State.foldl_applyAction_inputs]; rfl

theorem State.deliver_coreStays {s : State} (h : ∀ acts ∈ s.inputs, EnvAction.reset ∉ acts) :
    CoreStays s s.deliver := by
  cases hin : s.inputs with
  | nil => rw [State.deliver_nil hin]; exact ⟨_, _, _, _, _, rfl⟩
  | cons acts rest =>
    rw [State.deliver_cons hin]
    have hstart : CoreStays s { s with inputs := rest } := ⟨_, _, _, _, _, rfl⟩
    exact hstart.trans (State.foldl_applyAction_coreStays _ (h acts (by simp [hin])))

/-- The core is faulted with `f`, and no reset is to come. -/
structure State.Stuck (s : State) (f : Fault) : Prop where
  fault : s.fault = some f
  noReset : ∀ acts ∈ s.inputs, EnvAction.reset ∉ acts

/-- From `s` to `t` the core has stayed, and the last step reported `f` with no bus access. -/
structure ReportsAgain (f : Fault) (s t : State) : Prop where
  stays : CoreStays s t
  result : t.result = .err f
  trace : t.trace = []

/-- One step of a stuck core reports its fault and leaves it stuck (R180). -/
theorem State.Stuck.step {s : State} {f : Fault} (h : s.Stuck f) :
    ∃ t, step s = .next t ∧ t.Stuck f ∧ ReportsAgain f s t := by
  have hdeliver : CoreStays s s.deliver := State.deliver_coreStays h.noReset
  have hfault : s.deliver.fault = some f := by
    obtain ⟨_, _, _, _, _, hs⟩ := hdeliver
    rw [hs]; exact h.fault
  refine ⟨_, step_faulted hfault, ⟨hfault, fun acts hacts => h.noReset acts ?_⟩,
    ⟨hdeliver.trans ⟨_, _, _, _, _, rfl⟩, rfl, rfl⟩⟩
  exact List.mem_of_mem_tail (s.deliver_inputs ▸ hacts)

/-- A stuck core reports its fault at the end of every run. -/
theorem State.Stuck.run (n : Nat) {s : State} {f : Fault} (h : s.Stuck f) :
    ∃ t, core.run (n + 1) s = .next t ∧ t.fault = some f ∧ ReportsAgain f s t := by
  induction n generalizing s with
  | zero =>
    obtain ⟨t, hstep, hstuck, hreports⟩ := h.step
    exact ⟨t, core_run_succ hstep 0, hstuck.fault, hreports⟩
  | succ n ih =>
    obtain ⟨u, hstep, hstuck, hreports⟩ := h.step
    obtain ⟨t, hrun, hfault, hagain⟩ := ih hstuck
    exact ⟨t, (core_run_succ hstep (n + 1)).trans hrun, hfault,
      ⟨hreports.stays.trans hagain.stays, hagain.result, hagain.trace⟩⟩

/-- Settles O47: one step of a faulted core, then induction on the number of steps of a stuck one. -/
theorem faultStaysUntilReset : Obligations.FaultStaysUntilReset := by
  refine ⟨fun s f => step_faulted, fun n s f hfault hnoReset => ?_⟩
  obtain ⟨t, hrun, hfault', hstays, hresult, htrace⟩ := State.Stuck.run n ⟨hfault, hnoReset⟩
  obtain ⟨_, _, _, _, _, rfl⟩ := hstays
  exact ⟨_, hrun, hfault', hresult, htrace, rfl, rfl, rfl, rfl, rfl, rfl, rfl, rfl, rfl, rfl, rfl,
    rfl⟩

end Sys2Proof.Machine
end

section
/-! PROOFS. The reset profiles (R196 to R198). -/

namespace Sys2Proof.Machine

/-- Settles O53: the two profiles, each as its literal register file; the defaults are
`Config.standard`. -/
theorem resetProfiles : Obligations.ResetProfiles := by
  refine ⟨fun cfg => ?_, Config.standard, rfl, rfl, rfl, rfl, rfl⟩
  cases hprofile : cfg.resetProfile
  case zero => simp [State.resetWith, hprofile, Flags.toByte, boolByte]
  case postBoot => simp [State.resetWith, hprofile, Flags.toByte, boolByte]

end Sys2Proof.Machine
end
